-- ==== Sys2Proof/Word.lean ====
section
/-! DEFINITION. The word types of the TRACE sequencer (spec/00_scope.md R5, R6; spec/10_state.md R10; spec/42_sequence_control.md R95). -/

namespace Sys2Proof

/-- A byte: the unit of sequence space, an opcode, a register byte (R5, R31, R50). Bit 0 is the least significant (R6). -/
abbrev Byte := BitVec 8

/-- A 16-bit word: a register, an immediate, a sequence-space address operand (R5, R10). -/
abbrev Word := BitVec 16

/-- The register byte of a type-R operand, naming registers 0 to 255 (R11, R52). -/
abbrev Reg := BitVec 8

/-- A 32-bit sequence ID or target ID, the high word above the low word (R95, R147). -/
abbrev SeqId := BitVec 32

end Sys2Proof
end

