-- ==== Sys2Proof/Config.lean ====
section
/-! DEFINITION. The implementation parameters of spec/00_scope.md R4, the opaque data of the environment
(spec/45_observing.md R152), and the free values: constants without a body, of which nothing can be proved. -/

namespace Sys2Proof

/-- `P_BYTE_ORDER`: the order of the two bytes of a 2-byte operand or value word (R33, D1). -/
inductive ByteOrder where
  /-- The byte at the lower address is bits 7..0 (the default). -/
  | little
  /-- The byte at the lower address is bits 15..8. -/
  | big
  deriving DecidableEq, Repr

/-- `P_BOUNDS_CHECK`: when a branch address is bound checked (R81, D8). -/
inductive BoundsCheck where
  /-- Before the condition is evaluated, taken or not (the default). -/
  | always
  /-- Only when the condition holds. -/
  | taken
  deriving DecidableEq, Repr

/-- `P_OPC_83`: the owner of the opcode bytes 83, 87, 8B, 8F, which two tables claim (R60, D10). -/
inductive Opc83 where
  /-- SETREGS (the default); STTG then has no encoding there. -/
  | setregs
  /-- STTG; SETREGS then has no encoding. -/
  | sttg
  /-- The four bytes give `refuse(Opcode83)`. -/
  | refuse
  deriving DecidableEq, Repr

/-- `P_UBR_C2`: the operand type of opcode C2 (R61, D11). -/
inductive UbrC2 where
  /-- A register byte (the default). -/
  | reg
  /-- A 2-byte address, as the table prints. -/
  | addr
  /-- The byte gives `refuse(UbrC2)`. -/
  | refuse
  deriving DecidableEq, Repr

/-- `P_DELAY_REBASE`: what the delay time becomes when DELAY does not wait (R119, D20). -/
inductive DelayRebase where
  /-- The present tick (the default). -/
  | now
  /-- The missed target. -/
  | target
  deriving DecidableEq, Repr

/-- `P_DELAY_ON_CALL`: the delay time on entry to a called sequence (R96, D20). -/
inductive DelayOnCall where
  /-- The present tick (the default). -/
  | now
  /-- The caller's delay time. -/
  | keep
  deriving DecidableEq, Repr

/-- `P_CC_ADDR_UNIT`: what an LDA address counts (R133, D22). It bears on the oracle only (R36). -/
inductive CcAddrUnit where
  /-- Bytes (the default). -/
  | byte
  /-- Words. -/
  | word
  deriving DecidableEq, Repr

/-- A value of `P_STTG_OPCODES`: four bytes, unassigned under R58, that decode as STTG RR, RI, IR, II (R60). -/
structure SttgOpcodes where
  /-- The byte of format RR. -/
  rr : Byte
  /-- The byte of format RI. -/
  ri : Byte
  /-- The byte of format IR. -/
  ir : Byte
  /-- The byte of format II. -/
  ii : Byte
  deriving DecidableEq, Repr

/-- `P_BUILTIN_REG`: the register number a built-in is mapped onto, or none for a cell of its own (R15, D25). -/
structure BuiltinMap where
  /-- The register that is `$RTN`. -/
  rtn : Option Nat
  /-- The register that is `$NBF`. -/
  nbf : Option Nat
  /-- The register that is `$CBF`. -/
  cbf : Option Nat
  deriving DecidableEq, Repr

/-- The implementation parameters of R4, fixed for a run (R29). `P_NREGS` is not among them: it is the length of the
register file that `State` holds. -/
structure Config where
  /-- `P_SEQ_SIZE`: the size of sequence space in bytes, 1..65536 (R31). -/
  seqSize : Nat
  /-- `P_BYTE_ORDER` (R33). -/
  byteOrder : ByteOrder
  /-- `P_SIGNED`: whether comparison, MUL's high word and DIV read two's complement (R70, R91). -/
  signed : Bool
  /-- `P_BOUNDS_CHECK` (R81). -/
  boundsCheck : BoundsCheck
  /-- `P_OPC_83` (R60). -/
  opc83 : Opc83
  /-- `P_STTG_OPCODES` (R60). -/
  sttgOpcodes : Option SttgOpcodes
  /-- `P_UBR_C2` (R61). -/
  ubrC2 : UbrC2
  /-- `P_CALL_DEPTH`: the number of frames the call stack holds, 1..10 (R96). -/
  callDepth : Nat
  /-- `P_SEQ_LIST_HEAD`: where the chain of sequence headers starts (R38). -/
  seqListHead : Word
  /-- `P_DELAY_REBASE` (R119). -/
  delayRebase : DelayRebase
  /-- `P_DELAY_ON_CALL` (R96). -/
  delayOnCall : DelayOnCall
  /-- `P_CC_ADDR_UNIT` (R133). -/
  ccAddrUnit : CcAddrUnit
  /-- `P_CC_ADMIT`, held as the list of the LDA addresses it does NOT admit: empty admits all 65536 (R36). -/
  ccExcluded : List Word
  /-- `P_BUILTIN_REG` (R15). -/
  builtinReg : BuiltinMap
  deriving DecidableEq, Repr

/-- The defaults of R4. `P_SEQ_SIZE` has none there: 65536, the most a 2-byte address reaches, is the model's
(DESIGN CHOICE, unsafe: log entry 2). -/
def Config.default : Config where
  seqSize := 65536
  byteOrder := .little
  signed := true
  boundsCheck := .always
  opc83 := .setregs
  sttgOpcodes := none
  ubrC2 := .reg
  callDepth := 10
  seqListHead := 0
  delayRebase := .now
  delayOnCall := .now
  ccAddrUnit := .byte
  ccExcluded := []
  builtinReg := ⟨none, none, none⟩

/-- The status of a flare buffer. The document names one, "locked"; any other is an uninterpreted number (R25). -/
inductive BufferStatus where
  /-- The status LOCKBUF sets (R148). -/
  | locked
  /-- A status the document does not name. -/
  | other (code : Nat)
  deriving DecidableEq, Repr

/-- `flare`: the set of flare buffers with a status each, and which one, if any, is current (R25). Buffers are told
apart by an uninterpreted number. -/
structure Flare where
  /-- The buffers, each with its status. -/
  buffers : List (Nat × BufferStatus)
  /-- The current buffer. -/
  current : Option Nat
  deriving DecidableEq, Repr

/-- The wedge positions of a pointing target, as the request bytes STTG hands to the CC; their layout is not in the
source and nothing reads into them (R25, R146). -/
abbrev WedgePositions := List Byte

/-- The environment's tables behind `HasFdb`, `HasPzt` and `PctFind` (R152), fixed for a run (R176 premise 4). -/
structure Tables where
  /-- The 13-bit keys for which the frame table holds an FDB. -/
  fdbKeys : List (BitVec 13)
  /-- The indices, other than 0, that the PZT Offset Table has; entry 0 always exists (R152). -/
  pztIndices : List Word
  /-- The Pointing Control Table: 24-bit keys with their wedge positions, in table order. -/
  pct : List (BitVec 24 × WedgePositions)
  deriving DecidableEq, Repr

/-- FREE VALUE. The word `CCRead` answers at the `draw`-th draw of a run for an address in the given unit: chosen by the
oracle, unconstrained (R36; log entry 6). -/
opaque Config.ccWord (draw : Nat) (unit : CcAddrUnit) (a : Word) : Word

/-- FREE VALUE. The (row, column) pair `ImaxOf()` answers at the `draw`-th draw of a run (R152; log entry 6). -/
opaque Config.imaxOf (draw : Nat) : Nat × Nat

/-- FREE VALUE. `NextAvailable(flare)`: the new current buffer, if any, and the 16-bit value for `$CBF`
(R152, U28; log entry 7). -/
opaque Config.nextAvailable (flare : Flare) : Option Nat × Word

end Sys2Proof
end

