-- ==== Sys2Proof/Syntax.lean ====
section
/-! DEFINITION. The instructions: one constructor for each of the 101 rows of the opcode table (spec/30_encoding.md
R58), named by its mnemonic and its format with `A` for `&` (R8); STTG's four rows included (R60). The value words of
SETREGS are data, not operands (R51), so they are no part of its constructors. -/

namespace Sys2Proof

/-- An operand by its type letter (R8, R52, R55). -/
inductive Opnd where
  /-- `R`: a register byte. -/
  | reg (r : Reg)
  /-- `I`: a 2-byte immediate. -/
  | imm (v : Word)
  /-- `&`: a 2-byte address in sequence space. -/
  | addr (a : Word)
  deriving DecidableEq, Repr

/-- The bytes an operand takes: one for a register, two otherwise (R52). -/
def Opnd.size : Opnd → Nat
  | .reg _ => 1
  | .imm _ => 2
  | .addr _ => 2

/-- The instructions of Tables 3 to 8, one constructor per table row. -/
inductive Instr where
  /-- ADD, opcode 01, format RRR (R71). -/
  | addRRR (op1 : Reg) (op2 : Reg) (op3 : Reg)
  /-- ADD, opcode 03, format RRI (R71). -/
  | addRRI (op1 : Reg) (op2 : Reg) (op3 : Word)
  /-- ADD, opcode 05, format RIR (R71). -/
  | addRIR (op1 : Reg) (op2 : Word) (op3 : Reg)
  /-- ADD, opcode 07, format RII (R71). -/
  | addRII (op1 : Reg) (op2 : Word) (op3 : Word)
  /-- SUB, opcode 11, format RRR (R72). -/
  | subRRR (op1 : Reg) (op2 : Reg) (op3 : Reg)
  /-- SUB, opcode 13, format RRI (R72). -/
  | subRRI (op1 : Reg) (op2 : Reg) (op3 : Word)
  /-- SUB, opcode 15, format RIR (R72). -/
  | subRIR (op1 : Reg) (op2 : Word) (op3 : Reg)
  /-- SUB, opcode 17, format RII (R72). -/
  | subRII (op1 : Reg) (op2 : Word) (op3 : Word)
  /-- MUL, opcode 21, format RRR (R73). -/
  | mulRRR (op1 : Reg) (op2 : Reg) (op3 : Reg)
  /-- MUL, opcode 23, format RRI (R73). -/
  | mulRRI (op1 : Reg) (op2 : Reg) (op3 : Word)
  /-- MUL, opcode 25, format RIR (R73). -/
  | mulRIR (op1 : Reg) (op2 : Word) (op3 : Reg)
  /-- MUL, opcode 27, format RII (R73). -/
  | mulRII (op1 : Reg) (op2 : Word) (op3 : Word)
  /-- DIV, opcode 31, format RRR (R74). -/
  | divRRR (op1 : Reg) (op2 : Reg) (op3 : Reg)
  /-- DIV, opcode 33, format RRI (R74). -/
  | divRRI (op1 : Reg) (op2 : Reg) (op3 : Word)
  /-- DIV, opcode 35, format RIR (R74). -/
  | divRIR (op1 : Reg) (op2 : Word) (op3 : Reg)
  /-- DIV, opcode 37, format RII (R74). -/
  | divRII (op1 : Reg) (op2 : Word) (op3 : Word)
  /-- INC, opcode C6, format R (R75). -/
  | incR (op1 : Reg)
  /-- DEC, opcode D0, format R (R76). -/
  | decR (op1 : Reg)
  /-- BEQ, opcode 00, format RRR (R82). -/
  | beqRRR (op1 : Reg) (op2 : Reg) (op3 : Reg)
  /-- BEQ, opcode 02, format RRI (R82). -/
  | beqRRI (op1 : Reg) (op2 : Reg) (op3 : Word)
  /-- BEQ, opcode 08, format &RR (R82). -/
  | beqARR (op1 : Word) (op2 : Reg) (op3 : Reg)
  /-- BEQ, opcode 0A, format &RI (R82). -/
  | beqARI (op1 : Word) (op2 : Reg) (op3 : Word)
  /-- BNE, opcode 10, format RRR (R83). -/
  | bneRRR (op1 : Reg) (op2 : Reg) (op3 : Reg)
  /-- BNE, opcode 12, format RRI (R83). -/
  | bneRRI (op1 : Reg) (op2 : Reg) (op3 : Word)
  /-- BNE, opcode 18, format &RR (R83). -/
  | bneARR (op1 : Word) (op2 : Reg) (op3 : Reg)
  /-- BNE, opcode 1A, format &RI (R83). -/
  | bneARI (op1 : Word) (op2 : Reg) (op3 : Word)
  /-- BLT, opcode 20, format RRR (R84). -/
  | bltRRR (op1 : Reg) (op2 : Reg) (op3 : Reg)
  /-- BLT, opcode 22, format RRI (R84). -/
  | bltRRI (op1 : Reg) (op2 : Reg) (op3 : Word)
  /-- BLT, opcode 28, format &RR (R84). -/
  | bltARR (op1 : Word) (op2 : Reg) (op3 : Reg)
  /-- BLT, opcode 2A, format &RI (R84). -/
  | bltARI (op1 : Word) (op2 : Reg) (op3 : Word)
  /-- BLE, opcode 30, format RRR (R85). -/
  | bleRRR (op1 : Reg) (op2 : Reg) (op3 : Reg)
  /-- BLE, opcode 32, format RRI (R85). -/
  | bleRRI (op1 : Reg) (op2 : Reg) (op3 : Word)
  /-- BLE, opcode 38, format &RR (R85). -/
  | bleARR (op1 : Word) (op2 : Reg) (op3 : Reg)
  /-- BLE, opcode 3A, format &RI (R85). -/
  | bleARI (op1 : Word) (op2 : Reg) (op3 : Word)
  /-- BGT, opcode 40, format RRR (R86). -/
  | bgtRRR (op1 : Reg) (op2 : Reg) (op3 : Reg)
  /-- BGT, opcode 42, format RRI (R86). -/
  | bgtRRI (op1 : Reg) (op2 : Reg) (op3 : Word)
  /-- BGT, opcode 48, format &RR (R86). -/
  | bgtARR (op1 : Word) (op2 : Reg) (op3 : Reg)
  /-- BGT, opcode 4A, format &RI (R86). -/
  | bgtARI (op1 : Word) (op2 : Reg) (op3 : Word)
  /-- BGE, opcode 50, format RRR (R87). -/
  | bgeRRR (op1 : Reg) (op2 : Reg) (op3 : Reg)
  /-- BGE, opcode 52, format RRI (R87). -/
  | bgeRRI (op1 : Reg) (op2 : Reg) (op3 : Word)
  /-- BGE, opcode 58, format &RR (R87). -/
  | bgeARR (op1 : Word) (op2 : Reg) (op3 : Reg)
  /-- BGE, opcode 5A, format &RI (R87). -/
  | bgeARI (op1 : Word) (op2 : Reg) (op3 : Word)
  /-- BNZ, opcode 82, format RR (R88). -/
  | bnzRR (op1 : Reg) (op2 : Reg)
  /-- BNZ, opcode 86, format &R (R88). -/
  | bnzAR (op1 : Word) (op2 : Reg)
  /-- BZ, opcode 90, format RR (R89). -/
  | bzRR (op1 : Reg) (op2 : Reg)
  /-- BZ, opcode 98, format &R (R89). -/
  | bzAR (op1 : Word) (op2 : Reg)
  /-- UBR, opcode C2, format R (R90). -/
  | ubrR (op1 : Reg)
  /-- UBR, opcode CA, format & (R90). -/
  | ubrA (op1 : Word)
  /-- CLL, opcode 81, format RR (R96). -/
  | cllRR (op1 : Reg) (op2 : Reg)
  /-- CLL, opcode 85, format RI (R96). -/
  | cllRI (op1 : Reg) (op2 : Word)
  /-- CLL, opcode 89, format IR (R96). -/
  | cllIR (op1 : Word) (op2 : Reg)
  /-- CLL, opcode 8D, format II (R96). -/
  | cllII (op1 : Word) (op2 : Word)
  /-- SID, opcode A0, format RRI (R97). -/
  | sidRRI (op1 : Reg) (op2 : Reg) (op3 : Word)
  /-- SID, opcode A4, format RII (R97). -/
  | sidRII (op1 : Reg) (op2 : Word) (op3 : Word)
  /-- SID, opcode A8, format IRI (R97). -/
  | sidIRI (op1 : Word) (op2 : Reg) (op3 : Word)
  /-- SID, opcode AC, format III (R97). -/
  | sidIII (op1 : Word) (op2 : Word) (op3 : Word)
  /-- VID, opcode E1, format III (R98). -/
  | vidIII (op1 : Word) (op2 : Word) (op3 : Word)
  /-- RET, opcode E0, no operands (R100). -/
  | ret
  /-- EXIT, opcode B1, format R (R101). -/
  | exitR (op1 : Reg)
  /-- EXIT, opcode B9, format I (R101). -/
  | exitI (op1 : Word)
  /-- TERM, opcode E2, no operands (R102). -/
  | term
  /-- ABORT, opcode E4, no operands (R103). -/
  | abort
  /-- WAIT, opcode B4, format R (R117). -/
  | waitR (op1 : Reg)
  /-- WAIT, opcode BC, format I (R117). -/
  | waitI (op1 : Word)
  /-- DELAY, opcode B2, format R (R119). -/
  | delayR (op1 : Reg)
  /-- DELAY, opcode BA, format I (R119). -/
  | delayI (op1 : Word)
  /-- SRT, opcode E8, no operands (R120). -/
  | srt
  /-- TIM, opcode B0, format R (R121). -/
  | timR (op1 : Reg)
  /-- TIM, opcode B8, format I (R121). -/
  | timI (op1 : Word)
  /-- NOOP, opcode FF, no operands (R122). -/
  | noop
  /-- SET, opcode 80, format RR (R131). -/
  | setRR (op1 : Reg) (op2 : Reg)
  /-- SET, opcode 84, format RI (R131). -/
  | setRI (op1 : Reg) (op2 : Word)
  /-- SETREGS, opcode 83, format RR (R132). -/
  | setregsRR (op1 : Reg) (op2 : Reg)
  /-- SETREGS, opcode 87, format RI (R132). -/
  | setregsRI (op1 : Reg) (op2 : Word)
  /-- SETREGS, opcode 8B, format IR (R132). -/
  | setregsIR (op1 : Word) (op2 : Reg)
  /-- SETREGS, opcode 8F, format II (R132). -/
  | setregsII (op1 : Word) (op2 : Word)
  /-- LDA, opcode A1, format RR (R133). -/
  | ldaRR (op1 : Reg) (op2 : Reg)
  /-- LDA, opcode A5, format RI (R133). -/
  | ldaRI (op1 : Reg) (op2 : Word)
  /-- LDR, opcode A3, format RR (R134). -/
  | ldrRR (op1 : Reg) (op2 : Reg)
  /-- FRAME, opcode C0, format R (R141). -/
  | frameR (op1 : Reg)
  /-- FRAME, opcode C8, format I (R141). -/
  | frameI (op1 : Word)
  /-- FRMPF, opcode 70, format RRR (R143). -/
  | frmpfRRR (op1 : Reg) (op2 : Reg) (op3 : Reg)
  /-- FRMPF, opcode 72, format RRI (R143). -/
  | frmpfRRI (op1 : Reg) (op2 : Reg) (op3 : Word)
  /-- FRMPF, opcode 74, format RIR (R143). -/
  | frmpfRIR (op1 : Reg) (op2 : Word) (op3 : Reg)
  /-- FRMPF, opcode 76, format RII (R143). -/
  | frmpfRII (op1 : Reg) (op2 : Word) (op3 : Word)
  /-- FRMPF, opcode 78, format IRR (R143). -/
  | frmpfIRR (op1 : Word) (op2 : Reg) (op3 : Reg)
  /-- FRMPF, opcode 7A, format IRI (R143). -/
  | frmpfIRI (op1 : Word) (op2 : Reg) (op3 : Word)
  /-- FRMPF, opcode 7C, format IIR (R143). -/
  | frmpfIIR (op1 : Word) (op2 : Word) (op3 : Reg)
  /-- FRMPF, opcode 7E, format III (R143). -/
  | frmpfIII (op1 : Word) (op2 : Word) (op3 : Word)
  /-- SAMP, opcode 91, format RR (R145). -/
  | sampRR (op1 : Reg) (op2 : Reg)
  /-- SAMP, opcode 95, format RI (R145). -/
  | sampRI (op1 : Reg) (op2 : Word)
  /-- SAMP, opcode 99, format IR (R145). -/
  | sampIR (op1 : Word) (op2 : Reg)
  /-- SAMP, opcode 9D, format II (R145). -/
  | sampII (op1 : Word) (op2 : Word)
  /-- STTG, opcode 83, format RR (R146). -/
  | sttgRR (op1 : Reg) (op2 : Reg)
  /-- STTG, opcode 87, format RI (R146). -/
  | sttgRI (op1 : Reg) (op2 : Word)
  /-- STTG, opcode 8B, format IR (R146). -/
  | sttgIR (op1 : Word) (op2 : Reg)
  /-- STTG, opcode 8F, format II (R146). -/
  | sttgII (op1 : Word) (op2 : Word)
  /-- LOCKBUF, opcode EC, no operands (R148). -/
  | lockbuf
  /-- RESETAEC, opcode EE, no operands (R149). -/
  | resetaec
  /-- STARTAVE, opcode F0, no operands (R150). -/
  | startave
  /-- UPDIMAX, opcode F2, no operands (R151). -/
  | updimax
  deriving DecidableEq, Repr

/-- The operands of an instruction in the order OP1, OP2, OP3 (R53). -/
def Instr.operands : Instr → List Opnd
  | .addRRR op1 op2 op3 => [.reg op1, .reg op2, .reg op3]
  | .addRRI op1 op2 op3 => [.reg op1, .reg op2, .imm op3]
  | .addRIR op1 op2 op3 => [.reg op1, .imm op2, .reg op3]
  | .addRII op1 op2 op3 => [.reg op1, .imm op2, .imm op3]
  | .subRRR op1 op2 op3 => [.reg op1, .reg op2, .reg op3]
  | .subRRI op1 op2 op3 => [.reg op1, .reg op2, .imm op3]
  | .subRIR op1 op2 op3 => [.reg op1, .imm op2, .reg op3]
  | .subRII op1 op2 op3 => [.reg op1, .imm op2, .imm op3]
  | .mulRRR op1 op2 op3 => [.reg op1, .reg op2, .reg op3]
  | .mulRRI op1 op2 op3 => [.reg op1, .reg op2, .imm op3]
  | .mulRIR op1 op2 op3 => [.reg op1, .imm op2, .reg op3]
  | .mulRII op1 op2 op3 => [.reg op1, .imm op2, .imm op3]
  | .divRRR op1 op2 op3 => [.reg op1, .reg op2, .reg op3]
  | .divRRI op1 op2 op3 => [.reg op1, .reg op2, .imm op3]
  | .divRIR op1 op2 op3 => [.reg op1, .imm op2, .reg op3]
  | .divRII op1 op2 op3 => [.reg op1, .imm op2, .imm op3]
  | .incR op1 => [.reg op1]
  | .decR op1 => [.reg op1]
  | .beqRRR op1 op2 op3 => [.reg op1, .reg op2, .reg op3]
  | .beqRRI op1 op2 op3 => [.reg op1, .reg op2, .imm op3]
  | .beqARR op1 op2 op3 => [.addr op1, .reg op2, .reg op3]
  | .beqARI op1 op2 op3 => [.addr op1, .reg op2, .imm op3]
  | .bneRRR op1 op2 op3 => [.reg op1, .reg op2, .reg op3]
  | .bneRRI op1 op2 op3 => [.reg op1, .reg op2, .imm op3]
  | .bneARR op1 op2 op3 => [.addr op1, .reg op2, .reg op3]
  | .bneARI op1 op2 op3 => [.addr op1, .reg op2, .imm op3]
  | .bltRRR op1 op2 op3 => [.reg op1, .reg op2, .reg op3]
  | .bltRRI op1 op2 op3 => [.reg op1, .reg op2, .imm op3]
  | .bltARR op1 op2 op3 => [.addr op1, .reg op2, .reg op3]
  | .bltARI op1 op2 op3 => [.addr op1, .reg op2, .imm op3]
  | .bleRRR op1 op2 op3 => [.reg op1, .reg op2, .reg op3]
  | .bleRRI op1 op2 op3 => [.reg op1, .reg op2, .imm op3]
  | .bleARR op1 op2 op3 => [.addr op1, .reg op2, .reg op3]
  | .bleARI op1 op2 op3 => [.addr op1, .reg op2, .imm op3]
  | .bgtRRR op1 op2 op3 => [.reg op1, .reg op2, .reg op3]
  | .bgtRRI op1 op2 op3 => [.reg op1, .reg op2, .imm op3]
  | .bgtARR op1 op2 op3 => [.addr op1, .reg op2, .reg op3]
  | .bgtARI op1 op2 op3 => [.addr op1, .reg op2, .imm op3]
  | .bgeRRR op1 op2 op3 => [.reg op1, .reg op2, .reg op3]
  | .bgeRRI op1 op2 op3 => [.reg op1, .reg op2, .imm op3]
  | .bgeARR op1 op2 op3 => [.addr op1, .reg op2, .reg op3]
  | .bgeARI op1 op2 op3 => [.addr op1, .reg op2, .imm op3]
  | .bnzRR op1 op2 => [.reg op1, .reg op2]
  | .bnzAR op1 op2 => [.addr op1, .reg op2]
  | .bzRR op1 op2 => [.reg op1, .reg op2]
  | .bzAR op1 op2 => [.addr op1, .reg op2]
  | .ubrR op1 => [.reg op1]
  | .ubrA op1 => [.addr op1]
  | .cllRR op1 op2 => [.reg op1, .reg op2]
  | .cllRI op1 op2 => [.reg op1, .imm op2]
  | .cllIR op1 op2 => [.imm op1, .reg op2]
  | .cllII op1 op2 => [.imm op1, .imm op2]
  | .sidRRI op1 op2 op3 => [.reg op1, .reg op2, .imm op3]
  | .sidRII op1 op2 op3 => [.reg op1, .imm op2, .imm op3]
  | .sidIRI op1 op2 op3 => [.imm op1, .reg op2, .imm op3]
  | .sidIII op1 op2 op3 => [.imm op1, .imm op2, .imm op3]
  | .vidIII op1 op2 op3 => [.imm op1, .imm op2, .imm op3]
  | .ret => []
  | .exitR op1 => [.reg op1]
  | .exitI op1 => [.imm op1]
  | .term => []
  | .abort => []
  | .waitR op1 => [.reg op1]
  | .waitI op1 => [.imm op1]
  | .delayR op1 => [.reg op1]
  | .delayI op1 => [.imm op1]
  | .srt => []
  | .timR op1 => [.reg op1]
  | .timI op1 => [.imm op1]
  | .noop => []
  | .setRR op1 op2 => [.reg op1, .reg op2]
  | .setRI op1 op2 => [.reg op1, .imm op2]
  | .setregsRR op1 op2 => [.reg op1, .reg op2]
  | .setregsRI op1 op2 => [.reg op1, .imm op2]
  | .setregsIR op1 op2 => [.imm op1, .reg op2]
  | .setregsII op1 op2 => [.imm op1, .imm op2]
  | .ldaRR op1 op2 => [.reg op1, .reg op2]
  | .ldaRI op1 op2 => [.reg op1, .imm op2]
  | .ldrRR op1 op2 => [.reg op1, .reg op2]
  | .frameR op1 => [.reg op1]
  | .frameI op1 => [.imm op1]
  | .frmpfRRR op1 op2 op3 => [.reg op1, .reg op2, .reg op3]
  | .frmpfRRI op1 op2 op3 => [.reg op1, .reg op2, .imm op3]
  | .frmpfRIR op1 op2 op3 => [.reg op1, .imm op2, .reg op3]
  | .frmpfRII op1 op2 op3 => [.reg op1, .imm op2, .imm op3]
  | .frmpfIRR op1 op2 op3 => [.imm op1, .reg op2, .reg op3]
  | .frmpfIRI op1 op2 op3 => [.imm op1, .reg op2, .imm op3]
  | .frmpfIIR op1 op2 op3 => [.imm op1, .imm op2, .reg op3]
  | .frmpfIII op1 op2 op3 => [.imm op1, .imm op2, .imm op3]
  | .sampRR op1 op2 => [.reg op1, .reg op2]
  | .sampRI op1 op2 => [.reg op1, .imm op2]
  | .sampIR op1 op2 => [.imm op1, .reg op2]
  | .sampII op1 op2 => [.imm op1, .imm op2]
  | .sttgRR op1 op2 => [.reg op1, .reg op2]
  | .sttgRI op1 op2 => [.reg op1, .imm op2]
  | .sttgIR op1 op2 => [.imm op1, .reg op2]
  | .sttgII op1 op2 => [.imm op1, .imm op2]
  | .lockbuf => []
  | .resetaec => []
  | .startave => []
  | .updimax => []

/-- The total size of a list of operands in bytes. -/
def operandBytes (l : List Opnd) : Nat := (l.map Opnd.size).sum

/-- The length of an instruction in bytes, for SETREGS that of its header without the value words (R54). -/
def Instr.length (i : Instr) : Nat := 1 + operandBytes i.operands

end Sys2Proof
end

