-- ==== Sys2Proof/WellFormed.lean ====
section
/-! DEFINITION. What a configuration must satisfy (spec/00_scope.md R4), and which instructions have an encoding under
a configuration (spec/30_encoding.md R60, R61). -/

namespace Sys2Proof

/-- The 97 opcode bytes of the opcode map (R58), the contested ones included. -/
def assignedOpcodes : List Byte :=
  [0x00, 0x01, 0x02, 0x03, 0x05, 0x07, 0x08, 0x0A, 0x10, 0x11, 0x12, 0x13, 0x15, 0x17, 0x18, 0x1A] ++
  [0x20, 0x21, 0x22, 0x23, 0x25, 0x27, 0x28, 0x2A, 0x30, 0x31, 0x32, 0x33, 0x35, 0x37, 0x38, 0x3A] ++
  [0x40, 0x42, 0x48, 0x4A, 0x50, 0x52, 0x58, 0x5A, 0x70, 0x72, 0x74, 0x76, 0x78, 0x7A, 0x7C, 0x7E] ++
  [0x80, 0x81, 0x82, 0x83, 0x84, 0x85, 0x86, 0x87, 0x89, 0x8B, 0x8D, 0x8F, 0x90, 0x91, 0x95, 0x98] ++
  [0x99, 0x9D, 0xA0, 0xA1, 0xA3, 0xA4, 0xA5, 0xA8, 0xAC, 0xB0, 0xB1, 0xB2, 0xB4, 0xB8, 0xB9, 0xBA] ++
  [0xBC, 0xC0, 0xC2, 0xC6, 0xC8, 0xCA, 0xD0, 0xE0, 0xE1, 0xE2, 0xE4, 0xE8, 0xEC, 0xEE, 0xF0, 0xF2] ++
  [0xFF]

/-- `P_STTG_OPCODES` names four different bytes that are unassigned under R58 (R60). -/
def SttgOpcodes.wf (q : SttgOpcodes) : Bool :=
  [q.rr, q.ri, q.ir, q.ii].all (fun b => !assignedOpcodes.contains b) &&
    decide ([q.rr, q.ri, q.ir, q.ii].Nodup)

/-- The ranges R4 gives the parameters: sequence space of 1 to 65536 bytes (R31), a call stack of 1 to 10 frames
(R96), STTG's extra opcodes unassigned (R60). -/
def Config.wf (c : Config) : Bool :=
  decide (1 ≤ c.seqSize) && decide (c.seqSize ≤ 65536) && decide (1 ≤ c.callDepth) && decide (c.callDepth ≤ 10) &&
    c.sttgOpcodes.all SttgOpcodes.wf

/-- SETREGS owns the bytes 83, 87, 8B, 8F (R60). -/
def Config.setregsEncoded (c : Config) : Bool := decide (c.opc83 = .setregs)

/-- STTG has bytes: the four contested ones, or four of its own (R60, R146). -/
def Config.sttgEncoded (c : Config) : Bool := decide (c.opc83 = .sttg) || c.sttgOpcodes.isSome

/-- C2 is UBR with a register operand (R61). -/
def Config.ubrRegEncoded (c : Config) : Bool := decide (c.ubrC2 = .reg)

/-- The instruction has an encoding under the configuration. Operands need no check: a register byte and a 16-bit word
take any value (R52); a register number of `P_NREGS` or more is a fault when the instruction executes (R12). -/
def Instr.wellFormed (c : Config) : Instr → Bool
  | .addRRR _ _ _ => true
  | .addRRI _ _ _ => true
  | .addRIR _ _ _ => true
  | .addRII _ _ _ => true
  | .subRRR _ _ _ => true
  | .subRRI _ _ _ => true
  | .subRIR _ _ _ => true
  | .subRII _ _ _ => true
  | .mulRRR _ _ _ => true
  | .mulRRI _ _ _ => true
  | .mulRIR _ _ _ => true
  | .mulRII _ _ _ => true
  | .divRRR _ _ _ => true
  | .divRRI _ _ _ => true
  | .divRIR _ _ _ => true
  | .divRII _ _ _ => true
  | .incR _ => true
  | .decR _ => true
  | .beqRRR _ _ _ => true
  | .beqRRI _ _ _ => true
  | .beqARR _ _ _ => true
  | .beqARI _ _ _ => true
  | .bneRRR _ _ _ => true
  | .bneRRI _ _ _ => true
  | .bneARR _ _ _ => true
  | .bneARI _ _ _ => true
  | .bltRRR _ _ _ => true
  | .bltRRI _ _ _ => true
  | .bltARR _ _ _ => true
  | .bltARI _ _ _ => true
  | .bleRRR _ _ _ => true
  | .bleRRI _ _ _ => true
  | .bleARR _ _ _ => true
  | .bleARI _ _ _ => true
  | .bgtRRR _ _ _ => true
  | .bgtRRI _ _ _ => true
  | .bgtARR _ _ _ => true
  | .bgtARI _ _ _ => true
  | .bgeRRR _ _ _ => true
  | .bgeRRI _ _ _ => true
  | .bgeARR _ _ _ => true
  | .bgeARI _ _ _ => true
  | .bnzRR _ _ => true
  | .bnzAR _ _ => true
  | .bzRR _ _ => true
  | .bzAR _ _ => true
  | .ubrR _ => c.ubrRegEncoded
  | .ubrA _ => true
  | .cllRR _ _ => true
  | .cllRI _ _ => true
  | .cllIR _ _ => true
  | .cllII _ _ => true
  | .sidRRI _ _ _ => true
  | .sidRII _ _ _ => true
  | .sidIRI _ _ _ => true
  | .sidIII _ _ _ => true
  | .vidIII _ _ _ => true
  | .ret => true
  | .exitR _ => true
  | .exitI _ => true
  | .term => true
  | .abort => true
  | .waitR _ => true
  | .waitI _ => true
  | .delayR _ => true
  | .delayI _ => true
  | .srt => true
  | .timR _ => true
  | .timI _ => true
  | .noop => true
  | .setRR _ _ => true
  | .setRI _ _ => true
  | .setregsRR _ _ => c.setregsEncoded
  | .setregsRI _ _ => c.setregsEncoded
  | .setregsIR _ _ => c.setregsEncoded
  | .setregsII _ _ => c.setregsEncoded
  | .ldaRR _ _ => true
  | .ldaRI _ _ => true
  | .ldrRR _ _ => true
  | .frameR _ => true
  | .frameI _ => true
  | .frmpfRRR _ _ _ => true
  | .frmpfRRI _ _ _ => true
  | .frmpfRIR _ _ _ => true
  | .frmpfRII _ _ _ => true
  | .frmpfIRR _ _ _ => true
  | .frmpfIRI _ _ _ => true
  | .frmpfIIR _ _ _ => true
  | .frmpfIII _ _ _ => true
  | .sampRR _ _ => true
  | .sampRI _ _ => true
  | .sampIR _ _ => true
  | .sampII _ _ => true
  | .sttgRR _ _ => c.sttgEncoded
  | .sttgRI _ _ => c.sttgEncoded
  | .sttgIR _ _ => c.sttgEncoded
  | .sttgII _ _ => c.sttgEncoded
  | .lockbuf => true
  | .resetaec => true
  | .startave => true
  | .updimax => true

end Sys2Proof
end

