-- ==== Sys2Proof/Decode.lean ====
section
/-! DEFINITION. The decoder, total on any bytes (spec/30_encoding.md R50 to R63), the encoder written from the same
opcode map, and the byte-order helpers both use (spec/20_memory.md R33). -/

namespace Sys2Proof

/-- Why bytes decode to no instruction, the first reason met in the order of R164 (1) to (3). -/
inductive Rejection where
  /-- The read at this offset from the opcode byte finds too few bytes (`FetchBounds`, R165). -/
  | short (offset : Nat)
  /-- The opcode byte has no row (`IllegalOpcode`, R59). -/
  | illegalOpcode (op : Byte)
  /-- One of 83, 87, 8B, 8F under `P_OPC_83 = refuse` (R60). -/
  | opcode83
  /-- The byte C2 under `P_UBR_C2 = refuse` (R61). -/
  | ubrC2
  deriving DecidableEq, Repr

/-- The word made of the byte at the lower address and the byte at the higher address (R33). -/
def wordOf (o : ByteOrder) (b0 b1 : Byte) : Word :=
  match o with
  | .little => b1 ++ b0
  | .big => b0 ++ b1

/-- The byte of a word that stands at the lower address (R33). -/
def firstByte (o : ByteOrder) (w : Word) : Byte :=
  match o with
  | .little => w.extractLsb' 0 8
  | .big => w.extractLsb' 8 8

/-- The byte of a word that stands at the higher address (R33). -/
def secondByte (o : ByteOrder) (w : Word) : Byte :=
  match o with
  | .little => w.extractLsb' 8 8
  | .big => w.extractLsb' 0 8

/-- A row of the opcode map: the operand format, with how the operands make the instruction. The formats with `&` are
read as those with `I` (R52). -/
inductive Row where
  /-- No operands. -/
  | rNone (i : Instr)
  /-- Format R. -/
  | rR (mk : Reg → Instr)
  /-- Format I. -/
  | rI (mk : Word → Instr)
  /-- Format RR. -/
  | rRR (mk : Reg → Reg → Instr)
  /-- Format RI. -/
  | rRI (mk : Reg → Word → Instr)
  /-- Format IR. -/
  | rIR (mk : Word → Reg → Instr)
  /-- Format II. -/
  | rII (mk : Word → Word → Instr)
  /-- Format RRR. -/
  | rRRR (mk : Reg → Reg → Reg → Instr)
  /-- Format RRI. -/
  | rRRI (mk : Reg → Reg → Word → Instr)
  /-- Format RIR. -/
  | rRIR (mk : Reg → Word → Reg → Instr)
  /-- Format RII. -/
  | rRII (mk : Reg → Word → Word → Instr)
  /-- Format IRR. -/
  | rIRR (mk : Word → Reg → Reg → Instr)
  /-- Format IRI. -/
  | rIRI (mk : Word → Reg → Word → Instr)
  /-- Format IIR. -/
  | rIIR (mk : Word → Word → Reg → Instr)
  /-- Format III. -/
  | rIII (mk : Word → Word → Word → Instr)

/-- The rows of the opcode map whose meaning no parameter decides: every assigned byte but 83, 87, 8B, 8F, C2 (R58). -/
def plainRow (op : Byte) : Option Row :=
  match op.toNat with
  | 0x00 => some (.rRRR .beqRRR)
  | 0x01 => some (.rRRR .addRRR)
  | 0x02 => some (.rRRI .beqRRI)
  | 0x03 => some (.rRRI .addRRI)
  | 0x05 => some (.rRIR .addRIR)
  | 0x07 => some (.rRII .addRII)
  | 0x08 => some (.rIRR .beqARR)
  | 0x0A => some (.rIRI .beqARI)
  | 0x10 => some (.rRRR .bneRRR)
  | 0x11 => some (.rRRR .subRRR)
  | 0x12 => some (.rRRI .bneRRI)
  | 0x13 => some (.rRRI .subRRI)
  | 0x15 => some (.rRIR .subRIR)
  | 0x17 => some (.rRII .subRII)
  | 0x18 => some (.rIRR .bneARR)
  | 0x1A => some (.rIRI .bneARI)
  | 0x20 => some (.rRRR .bltRRR)
  | 0x21 => some (.rRRR .mulRRR)
  | 0x22 => some (.rRRI .bltRRI)
  | 0x23 => some (.rRRI .mulRRI)
  | 0x25 => some (.rRIR .mulRIR)
  | 0x27 => some (.rRII .mulRII)
  | 0x28 => some (.rIRR .bltARR)
  | 0x2A => some (.rIRI .bltARI)
  | 0x30 => some (.rRRR .bleRRR)
  | 0x31 => some (.rRRR .divRRR)
  | 0x32 => some (.rRRI .bleRRI)
  | 0x33 => some (.rRRI .divRRI)
  | 0x35 => some (.rRIR .divRIR)
  | 0x37 => some (.rRII .divRII)
  | 0x38 => some (.rIRR .bleARR)
  | 0x3A => some (.rIRI .bleARI)
  | 0x40 => some (.rRRR .bgtRRR)
  | 0x42 => some (.rRRI .bgtRRI)
  | 0x48 => some (.rIRR .bgtARR)
  | 0x4A => some (.rIRI .bgtARI)
  | 0x50 => some (.rRRR .bgeRRR)
  | 0x52 => some (.rRRI .bgeRRI)
  | 0x58 => some (.rIRR .bgeARR)
  | 0x5A => some (.rIRI .bgeARI)
  | 0x70 => some (.rRRR .frmpfRRR)
  | 0x72 => some (.rRRI .frmpfRRI)
  | 0x74 => some (.rRIR .frmpfRIR)
  | 0x76 => some (.rRII .frmpfRII)
  | 0x78 => some (.rIRR .frmpfIRR)
  | 0x7A => some (.rIRI .frmpfIRI)
  | 0x7C => some (.rIIR .frmpfIIR)
  | 0x7E => some (.rIII .frmpfIII)
  | 0x80 => some (.rRR .setRR)
  | 0x81 => some (.rRR .cllRR)
  | 0x82 => some (.rRR .bnzRR)
  | 0x84 => some (.rRI .setRI)
  | 0x85 => some (.rRI .cllRI)
  | 0x86 => some (.rIR .bnzAR)
  | 0x89 => some (.rIR .cllIR)
  | 0x8D => some (.rII .cllII)
  | 0x90 => some (.rRR .bzRR)
  | 0x91 => some (.rRR .sampRR)
  | 0x95 => some (.rRI .sampRI)
  | 0x98 => some (.rIR .bzAR)
  | 0x99 => some (.rIR .sampIR)
  | 0x9D => some (.rII .sampII)
  | 0xA0 => some (.rRRI .sidRRI)
  | 0xA1 => some (.rRR .ldaRR)
  | 0xA3 => some (.rRR .ldrRR)
  | 0xA4 => some (.rRII .sidRII)
  | 0xA5 => some (.rRI .ldaRI)
  | 0xA8 => some (.rIRI .sidIRI)
  | 0xAC => some (.rIII .sidIII)
  | 0xB0 => some (.rR .timR)
  | 0xB1 => some (.rR .exitR)
  | 0xB2 => some (.rR .delayR)
  | 0xB4 => some (.rR .waitR)
  | 0xB8 => some (.rI .timI)
  | 0xB9 => some (.rI .exitI)
  | 0xBA => some (.rI .delayI)
  | 0xBC => some (.rI .waitI)
  | 0xC0 => some (.rR .frameR)
  | 0xC6 => some (.rR .incR)
  | 0xC8 => some (.rI .frameI)
  | 0xCA => some (.rI .ubrA)
  | 0xD0 => some (.rR .decR)
  | 0xE0 => some (.rNone .ret)
  | 0xE1 => some (.rIII .vidIII)
  | 0xE2 => some (.rNone .term)
  | 0xE4 => some (.rNone .abort)
  | 0xE8 => some (.rNone .srt)
  | 0xEC => some (.rNone .lockbuf)
  | 0xEE => some (.rNone .resetaec)
  | 0xF0 => some (.rNone .startave)
  | 0xF2 => some (.rNone .updimax)
  | 0xFF => some (.rNone .noop)
  | _ => none

/-- The row of the contested bytes 83, 87, 8B, 8F by `P_OPC_83` (R60). -/
def row83 (c : Config) (setregs sttg : Row) : Except Rejection Row :=
  match c.opc83 with
  | .setregs => .ok setregs
  | .sttg => .ok sttg
  | .refuse => .error .opcode83

/-- The row of the byte C2 by `P_UBR_C2` (R61). -/
def rowC2 (c : Config) : Except Rejection Row :=
  match c.ubrC2 with
  | .reg => .ok (.rR .ubrR)
  | .addr => .ok (.rI .ubrA)
  | .refuse => .error .ubrC2

/-- The row of a byte of `P_STTG_OPCODES`, if it is one; any other byte here is unassigned (R59, R60). -/
def extraRow (c : Config) (op : Byte) : Except Rejection Row :=
  match c.sttgOpcodes with
  | none => .error (.illegalOpcode op)
  | some q =>
    if op = q.rr then .ok (.rRR .sttgRR)
    else if op = q.ri then .ok (.rRI .sttgRI)
    else if op = q.ir then .ok (.rIR .sttgIR)
    else if op = q.ii then .ok (.rII .sttgII)
    else .error (.illegalOpcode op)

/-- The row of the opcode map for an opcode byte, which alone selects the instruction and its operand types (R50). -/
def rowOf (c : Config) (op : Byte) : Except Rejection Row :=
  match plainRow op with
  | some r => .ok r
  | none =>
    if op = 0x83 then row83 c (.rRR .setregsRR) (.rRR .sttgRR)
    else if op = 0x87 then row83 c (.rRI .setregsRI) (.rRI .sttgRI)
    else if op = 0x8B then row83 c (.rIR .setregsIR) (.rIR .sttgIR)
    else if op = 0x8F then row83 c (.rII .setregsII) (.rII .sttgII)
    else if op = 0xC2 then rowC2 c
    else extraRow c op

/-- What decoding gives: an instruction and the bytes after it, or a rejection. -/
abbrev Decoded := Except Rejection (Instr × List Byte)

/-- Reads the register byte at an offset (R52, R54). -/
def takeR (off : Nat) (bs : List Byte) (k : Reg → List Byte → Decoded) : Decoded :=
  match bs with
  | b :: rest => k b rest
  | [] => .error (.short off)

/-- Reads the 2-byte immediate or address at an offset (R52, R54). -/
def takeW (o : ByteOrder) (off : Nat) (bs : List Byte) (k : Word → List Byte → Decoded) : Decoded :=
  match bs with
  | b0 :: b1 :: rest => k (wordOf o b0 b1) rest
  | _ => .error (.short off)

/-- Reads the operands of a row from the bytes after the opcode, in operand order without padding (R53, R54). -/
def readOperands (o : ByteOrder) (row : Row) (bs : List Byte) : Decoded :=
  match row with
  | .rNone i => .ok (i, bs)
  | .rR mk => takeR 1 bs fun x1 bs => .ok (mk x1, bs)
  | .rI mk => takeW o 1 bs fun x1 bs => .ok (mk x1, bs)
  | .rRR mk => takeR 1 bs fun x1 bs => takeR 2 bs fun x2 bs => .ok (mk x1 x2, bs)
  | .rRI mk => takeR 1 bs fun x1 bs => takeW o 2 bs fun x2 bs => .ok (mk x1 x2, bs)
  | .rIR mk => takeW o 1 bs fun x1 bs => takeR 3 bs fun x2 bs => .ok (mk x1 x2, bs)
  | .rII mk => takeW o 1 bs fun x1 bs => takeW o 3 bs fun x2 bs => .ok (mk x1 x2, bs)
  | .rRRR mk =>
      takeR 1 bs fun x1 bs =>
      takeR 2 bs fun x2 bs =>
      takeR 3 bs fun x3 bs => .ok (mk x1 x2 x3, bs)
  | .rRRI mk =>
      takeR 1 bs fun x1 bs =>
      takeR 2 bs fun x2 bs =>
      takeW o 3 bs fun x3 bs => .ok (mk x1 x2 x3, bs)
  | .rRIR mk =>
      takeR 1 bs fun x1 bs =>
      takeW o 2 bs fun x2 bs =>
      takeR 4 bs fun x3 bs => .ok (mk x1 x2 x3, bs)
  | .rRII mk =>
      takeR 1 bs fun x1 bs =>
      takeW o 2 bs fun x2 bs =>
      takeW o 4 bs fun x3 bs => .ok (mk x1 x2 x3, bs)
  | .rIRR mk =>
      takeW o 1 bs fun x1 bs =>
      takeR 3 bs fun x2 bs =>
      takeR 4 bs fun x3 bs => .ok (mk x1 x2 x3, bs)
  | .rIRI mk =>
      takeW o 1 bs fun x1 bs =>
      takeR 3 bs fun x2 bs =>
      takeW o 4 bs fun x3 bs => .ok (mk x1 x2 x3, bs)
  | .rIIR mk =>
      takeW o 1 bs fun x1 bs =>
      takeW o 3 bs fun x2 bs =>
      takeR 5 bs fun x3 bs => .ok (mk x1 x2 x3, bs)
  | .rIII mk =>
      takeW o 1 bs fun x1 bs =>
      takeW o 3 bs fun x2 bs =>
      takeW o 5 bs fun x3 bs => .ok (mk x1 x2 x3, bs)

/-- Decodes the instruction at the head of a list of bytes: the opcode byte, its row, its operands (R50 to R54). -/
def decode (c : Config) (bytes : List Byte) : Decoded :=
  match bytes with
  | [] => .error (.short 0)
  | op :: rest =>
    match rowOf c op with
    | .ok row => readOperands c.byteOrder row rest
    | .error e => .error e

/-- The byte STTG has of the contested four, or else its byte of `P_STTG_OPCODES` (R60). -/
def sttgByte (c : Config) (contested : Byte) (own : SttgOpcodes → Byte) : Byte :=
  match c.opc83, c.sttgOpcodes with
  | .sttg, _ => contested
  | _, some q => own q
  | _, none => contested

/-- The opcode byte of an instruction (R58); for an instruction without an encoding under the configuration, the byte
the table prints. -/
def Instr.opcode (c : Config) : Instr → Byte
  | .addRRR _ _ _ => 0x01
  | .addRRI _ _ _ => 0x03
  | .addRIR _ _ _ => 0x05
  | .addRII _ _ _ => 0x07
  | .subRRR _ _ _ => 0x11
  | .subRRI _ _ _ => 0x13
  | .subRIR _ _ _ => 0x15
  | .subRII _ _ _ => 0x17
  | .mulRRR _ _ _ => 0x21
  | .mulRRI _ _ _ => 0x23
  | .mulRIR _ _ _ => 0x25
  | .mulRII _ _ _ => 0x27
  | .divRRR _ _ _ => 0x31
  | .divRRI _ _ _ => 0x33
  | .divRIR _ _ _ => 0x35
  | .divRII _ _ _ => 0x37
  | .incR _ => 0xC6
  | .decR _ => 0xD0
  | .beqRRR _ _ _ => 0x00
  | .beqRRI _ _ _ => 0x02
  | .beqARR _ _ _ => 0x08
  | .beqARI _ _ _ => 0x0A
  | .bneRRR _ _ _ => 0x10
  | .bneRRI _ _ _ => 0x12
  | .bneARR _ _ _ => 0x18
  | .bneARI _ _ _ => 0x1A
  | .bltRRR _ _ _ => 0x20
  | .bltRRI _ _ _ => 0x22
  | .bltARR _ _ _ => 0x28
  | .bltARI _ _ _ => 0x2A
  | .bleRRR _ _ _ => 0x30
  | .bleRRI _ _ _ => 0x32
  | .bleARR _ _ _ => 0x38
  | .bleARI _ _ _ => 0x3A
  | .bgtRRR _ _ _ => 0x40
  | .bgtRRI _ _ _ => 0x42
  | .bgtARR _ _ _ => 0x48
  | .bgtARI _ _ _ => 0x4A
  | .bgeRRR _ _ _ => 0x50
  | .bgeRRI _ _ _ => 0x52
  | .bgeARR _ _ _ => 0x58
  | .bgeARI _ _ _ => 0x5A
  | .bnzRR _ _ => 0x82
  | .bnzAR _ _ => 0x86
  | .bzRR _ _ => 0x90
  | .bzAR _ _ => 0x98
  | .ubrR _ => 0xC2
  | .ubrA _ => 0xCA
  | .cllRR _ _ => 0x81
  | .cllRI _ _ => 0x85
  | .cllIR _ _ => 0x89
  | .cllII _ _ => 0x8D
  | .sidRRI _ _ _ => 0xA0
  | .sidRII _ _ _ => 0xA4
  | .sidIRI _ _ _ => 0xA8
  | .sidIII _ _ _ => 0xAC
  | .vidIII _ _ _ => 0xE1
  | .ret => 0xE0
  | .exitR _ => 0xB1
  | .exitI _ => 0xB9
  | .term => 0xE2
  | .abort => 0xE4
  | .waitR _ => 0xB4
  | .waitI _ => 0xBC
  | .delayR _ => 0xB2
  | .delayI _ => 0xBA
  | .srt => 0xE8
  | .timR _ => 0xB0
  | .timI _ => 0xB8
  | .noop => 0xFF
  | .setRR _ _ => 0x80
  | .setRI _ _ => 0x84
  | .setregsRR _ _ => 0x83
  | .setregsRI _ _ => 0x87
  | .setregsIR _ _ => 0x8B
  | .setregsII _ _ => 0x8F
  | .ldaRR _ _ => 0xA1
  | .ldaRI _ _ => 0xA5
  | .ldrRR _ _ => 0xA3
  | .frameR _ => 0xC0
  | .frameI _ => 0xC8
  | .frmpfRRR _ _ _ => 0x70
  | .frmpfRRI _ _ _ => 0x72
  | .frmpfRIR _ _ _ => 0x74
  | .frmpfRII _ _ _ => 0x76
  | .frmpfIRR _ _ _ => 0x78
  | .frmpfIRI _ _ _ => 0x7A
  | .frmpfIIR _ _ _ => 0x7C
  | .frmpfIII _ _ _ => 0x7E
  | .sampRR _ _ => 0x91
  | .sampRI _ _ => 0x95
  | .sampIR _ _ => 0x99
  | .sampII _ _ => 0x9D
  | .sttgRR _ _ => sttgByte c 0x83 (·.rr)
  | .sttgRI _ _ => sttgByte c 0x87 (·.ri)
  | .sttgIR _ _ => sttgByte c 0x8B (·.ir)
  | .sttgII _ _ => sttgByte c 0x8F (·.ii)
  | .lockbuf => 0xEC
  | .resetaec => 0xEE
  | .startave => 0xF0
  | .updimax => 0xF2

/-- The bytes of an operand (R52). -/
def Opnd.bytes (o : ByteOrder) : Opnd → List Byte
  | .reg r => [r]
  | .imm v => [firstByte o v, secondByte o v]
  | .addr a => [firstByte o a, secondByte o a]

/-- The bytes of an instruction: the opcode byte, then the operands in order (R53). For SETREGS this is the header; its
value words follow it as data (R63). -/
def encode (c : Config) (i : Instr) : List Byte :=
  i.opcode c :: i.operands.flatMap (Opnd.bytes c.byteOrder)

/-- The most bytes an instruction's opcode and operands take (R54). -/
def maxLength : Nat := 7

/-- `n` bytes of a number, the least significant at the lowest address: the layout of the opcode table's bits. -/
def bytesOfNat : Nat → Nat → List Byte
  | 0, _ => []
  | n + 1, w => BitVec.ofNat 8 w :: bytesOfNat n (w / 256)

/-- The bytes of an instruction given as `nbits` bits of a number, with every bit above them zero, up to the longest
instruction. -/
def layoutWord (nbits w : Nat) : List Byte := bytesOfNat (max maxLength ((nbits + 7) / 8)) (w % 2 ^ nbits)

/-- The instruction the decoder reads, under the default parameters, from an instruction whose bits are `w`. -/
def decodeTableWord (nbits w : Nat) : Option Instr :=
  match decode Config.default (layoutWord nbits w) with
  | .ok (i, _) => some i
  | .error _ => none

end Sys2Proof
end

