-- ==== Sys2Proof/Machine/State.lean ====
section
/-! DEFINITION. The state of the sequencer (spec/10_state.md), the environment's inputs and the schedule that says which
step the relation of spec/60_exceptions.md R175 takes next, as plain data, and the state after reset (R28). -/

namespace Sys2Proof.Machine

/-- The table a lookup failed in, for `TableLookup` (R161). -/
inductive TableKind where
  /-- The frame table (R141). -/
  | frame
  /-- The PZT Offset Table (R143). -/
  | pzt
  /-- The Pointing Control Table (R146). -/
  | pct
  deriving DecidableEq, Repr

/-- The faults of R161, with the information the mode records. They are values of `mode`, not outcomes of a step: the
spec describes what raising one does to the state (R160). -/
inductive Cause where
  /-- A read of sequence space at this address passes its end (R165). -/
  | fetchBounds (a : Nat)
  /-- The opcode byte has no row (R163). -/
  | illegalOpcode (op : Byte)
  /-- The register number is not below `P_NREGS` (R166). -/
  | regIndex (n : Nat)
  /-- The branch target is not in sequence space (R167). -/
  | branchBounds (t : Nat)
  /-- The divisor is 0 (R74). -/
  | divideByZero
  /-- The signed quotient -32768 / -1 (R74). -/
  | divideOverflow
  /-- The call stack is full (R168). -/
  | callDepth
  /-- No header carries the ID (R169). -/
  | seqNotFound (id : SeqId)
  /-- The CC data segment does not admit the address (R36). -/
  | ccAddress (a : Word)
  /-- The table has no entry for the operand value (R152). -/
  | tableLookup (kind : TableKind) (v : Nat)
  deriving DecidableEq, Repr

/-- The refusals of R162, which the spec gives as values of `mode` too. -/
inductive Reason where
  /-- MUL with destination register 199 (R73). -/
  | mulDestIsR199
  /-- LDR with both operands the same register (R134). -/
  | ldrSameRegister
  /-- 83, 87, 8B, 8F under `P_OPC_83 = refuse` (R60). -/
  | opcode83
  /-- C2 under `P_UBR_C2 = refuse` (R61). -/
  | ubrC2
  deriving DecidableEq, Repr

/-- The run mode (R20). -/
inductive Mode where
  /-- No sequence is running. -/
  | idle
  /-- The instruction at `pc` is the next thing the sequencer executes. -/
  | running
  /-- WAIT in progress, `k` ticks left. -/
  | waitTicks (k : Nat)
  /-- DELAY in progress until the tick counter reaches `t`. -/
  | waitDelay (t : Nat)
  /-- TIM in progress until LOBT reaches `t`. -/
  | waitTime (t : Nat)
  /-- FRAME or FRMPF handed to the CC and DHC. -/
  | waitFrame
  /-- STTG handed to the CC. -/
  | waitSlew
  /-- A fault was raised; never left (R160). -/
  | faulted (c : Cause)
  /-- A refusal; never left (R162). -/
  | refused (r : Reason)
  deriving DecidableEq, Repr

/-- A frame of the call stack (R18). -/
structure Frame where
  /-- The address at which the caller resumes. -/
  ret : Nat
  /-- The caller's delay time. -/
  delay : Nat
  deriving DecidableEq, Repr

/-- A NewSequence command: a non-empty list of sequence IDs (R26, R173). -/
structure Command where
  /-- The first ID. -/
  first : SeqId
  /-- The IDs after it. -/
  rest : List SeqId
  deriving DecidableEq, Repr

/-- An event the sequencer emits (R26). -/
inductive Event where
  /-- A picture: FID, and for FRMPF the PZT offset index and the signed focus offset (R141, R143). -/
  | picture (fid : Word) (pzto : Option Word) (fo : Option Int)
  /-- A pointing target (R146). -/
  | target (id : SeqId)
  /-- An ID placed in housekeeping telemetry (R97). -/
  | telemetry (id : SeqId)
  /-- A flare buffer was locked (R148). -/
  | lockBuf
  /-- The AEC levels were reset (R149). -/
  | resetAec
  /-- Time averaging was started (R150). -/
  | startAve
  /-- IMAX was updated (R151). -/
  | updImax
  /-- Camera amplifier and ADC offset (R145). -/
  | samp (a o : Word)
  deriving DecidableEq, Repr

/-- How a picture's phase I ended (R142); the sequencer keeps no record of it. -/
inductive FrameResult where
  /-- The event detection portion is complete. -/
  | phase1
  /-- A DHC error. -/
  | dhcError
  /-- A picture state machine timeout. -/
  | timeout
  deriving DecidableEq, Repr

/-- A change the environment makes to a cell it shares (R170, R41). -/
inductive EnvWrite where
  /-- A current exposure level (R23). -/
  | aecCur (i : Fin 128) (v : Nat)
  /-- The flare buffers (R25). -/
  | flare (f : Flare)
  /-- `$NBF` (R15). -/
  | nbf (v : Word)
  /-- `$CBF` (R15). -/
  | cbf (v : Word)
  /-- The IMAX row (R24). -/
  | imaxRow (v : Nat)
  /-- The IMAX column (R24). -/
  | imaxCol (v : Nat)
  /-- `start_ave` cleared when the frame it applies to is taken (R24). -/
  | clearStartAve
  /-- The CCD amplifier selection (R41; log entry 10). -/
  | camAmp (v : Word)
  /-- The wedge request bytes (R41; log entry 10). -/
  | wedgeRequest (w : WedgePositions)
  deriving DecidableEq, Repr

/-- One step of the relation of R175: which agent moves, and how. -/
inductive Action where
  /-- The sequencer executes the instruction at `pc`. -/
  | exec
  /-- The sequencer starts the pending NewSequence (R174). -/
  | startPending
  /-- The tick counter advances (R118). -/
  | tick
  /-- The on-board time is set (R123). -/
  | lobt (v : Nat)
  /-- Phase I of the picture is over (R142). -/
  | frameDone (r : FrameResult)
  /-- The slew flag is zero (R146). -/
  | slewDone
  /-- A NewSequence command arrives (R173). -/
  | newSequence (c : Command)
  /-- The environment changes a shared cell (R170). -/
  | envWrite (w : EnvWrite)
  deriving DecidableEq, Repr

/-- Why a step has no next state. No instruction's meaning raises one of these: the spec's own faults are values of
`mode` (`Cause`). -/
inductive Fault where
  /-- Raised by `step` when the schedule is empty and no sequencer step is enabled: the final state, a wait whose event
  is not scheduled, a faulted or refused machine (R177, U31, U32). Safe: there is no step to take. -/
  | stuck
  /-- Raised by `step` when the schedule names a step that is not enabled (R170, R174, R175). Safe: the relation has no
  such step. -/
  | notEnabled (a : Action)
  deriving DecidableEq, Repr

/-- Why a step has no meaning. -/
inductive Refusal where
  /-- The instruction has no meaning in the model; raised by no arm of `exec`. Safe: nothing is proved of a run that
  meets it. -/
  | notModelled (mnemonic : String)
  deriving DecidableEq, Repr

/-- Sequence space: (address, byte) pairs, addresses strictly rising, no byte equal to what an unlisted address reads as
(R31). -/
abbrev Memory := List Host.Cell

/-- The whole state. The list of what each field is, with its rule and its reset value, is INVENTORY.md's. -/
structure State where
  /-- The implementation parameters, fixed for a run (R4, R29). -/
  cfg : Config
  /-- The environment's tables, fixed for a run (R152, R176). -/
  tables : Tables
  /-- Sequence space, fixed for a run (R29, R31, R44). -/
  mem : Memory
  /-- The general registers `x[0] .. x[P_NREGS-1]` (R10 to R12, R14); `P_NREGS` is the list's length. -/
  regs : List Word
  /-- The program counter, a byte address in sequence space (R13). -/
  pc : Nat
  /-- The cell of `$RTN` where no register is it (R15). -/
  rtn : Word
  /-- The cell of `$NBF` where no register is it (R15). -/
  nbf : Word
  /-- The cell of `$CBF` where no register is it (R15). -/
  cbf : Word
  /-- `RefTime`, in LOBT seconds (R16). -/
  refTime : Nat
  /-- `DelayTime`, in ticks (R17). -/
  delayTime : Nat
  /-- The call stack, innermost frame first; its depth is the length (R18). -/
  callStack : List Frame
  /-- `list`: the IDs of the command being served that have not yet started (R19). -/
  seqList : List SeqId
  /-- `pending`: the NewSequence command received and not yet started (R19). -/
  pending : Option Command
  /-- The run mode (R20). -/
  mode : Mode
  /-- The ID last placed in housekeeping telemetry (R21). -/
  hkSeqId : SeqId
  /-- The CCD amplifier selection (R22). -/
  camAmp : Word
  /-- The ADC offset (R22). -/
  camAdcOffset : Word
  /-- The current exposure levels, uninterpreted (R23). -/
  aecCur : Vector Nat 128
  /-- The default exposure levels, uninterpreted (R23). -/
  aecDef : Vector Nat 128
  /-- `start_ave` (R24). -/
  startAve : Bool
  /-- The IMAX row (R24). -/
  imaxRow : Nat
  /-- The IMAX column (R24). -/
  imaxCol : Nat
  /-- The flare buffers (R25). -/
  flare : Flare
  /-- The request bytes STTG writes (R25). -/
  wedgeRequest : WedgePositions
  /-- The tick counter, an input (R26). -/
  nowTicks : Nat
  /-- The local on-board time in seconds, an input (R26). -/
  lobt : Nat
  /-- The events emitted so far, oldest first (R26). -/
  trace : List Event
  /-- The MODEL's own: how many oracle values have been drawn; the argument of the free values (log entry 6). -/
  draws : Nat
  /-- The MODEL's own: the steps the relation takes next, first one first (log entry 5). -/
  schedule : List Action
  deriving DecidableEq, Repr

/-- The machine after reset (R28, R190): nothing runs, the call stack, the list, the pending slot and the trace are
empty. Every other value is unspecified there; those below are the model's (DESIGN CHOICE, unsafe: log entries 1, 2, 3). -/
def State.reset : State where
  cfg := Config.default
  tables := ⟨[], [], []⟩
  mem := []
  regs := List.replicate 256 0
  pc := 0
  rtn := 0
  nbf := 0
  cbf := 0
  refTime := 0
  delayTime := 0
  callStack := []
  seqList := []
  pending := none
  mode := .idle
  hkSeqId := 0
  camAmp := 0
  camAdcOffset := 0
  aecCur := Vector.replicate 128 0
  aecDef := Vector.replicate 128 0
  startAve := false
  imaxRow := 0
  imaxCol := 0
  flare := ⟨[], none⟩
  wedgeRequest := []
  nowTicks := 0
  lobt := 0
  trace := []
  draws := 0
  schedule := []

end Sys2Proof.Machine
end

