-- ==== Sys2Proof/Machine/Ops.lean ====
section
/-! DEFINITION. The named operations over memory, registers, the built-ins, the mode and the trace; raising a fault and
refusing (spec/60_exceptions.md R160, R162); finding, entering and ending a sequence (R38, R105, R99). The machine has no
trap entry beyond raising a fault and no return from one (R171, R172). -/

namespace Sys2Proof.Machine

/-- What `exec` and `step` answer. -/
abbrev Result := Host.Outcome State Fault Refusal

/-- What a byte of sequence space that nothing has loaded reads as (DESIGN CHOICE, unsafe: log entry 4). -/
def unlistedByte : Byte := 0

/-- The byte of sequence space at an address (R32). -/
def Memory.read : Memory → Nat → Byte
  | [], _ => unlistedByte
  | (b, v) :: m, a => if b = a then v else Memory.read m a

/-- Stores a byte in sequence space, keeping the canonical form. No instruction uses it (R35): it is how a sequence is
loaded from outside the machine (R44). -/
def Memory.write : Memory → Nat → Byte → Memory
  | [], a, v => if v = unlistedByte then [] else [(a, v)]
  | (b, w) :: m, a, v =>
    if a < b then (if v = unlistedByte then (b, w) :: m else (a, v) :: (b, w) :: m)
    else if a = b then (if v = unlistedByte then m else (a, v) :: m)
    else (b, w) :: Memory.write m a v

/-- Stores bytes at rising addresses. -/
def Memory.writeAll (m : Memory) (a : Nat) : List Byte → Memory
  | [] => m
  | b :: bs => Memory.writeAll (Memory.write m a b) (a + 1) bs

/-- The canonical form from an address up: addresses strictly rising, no byte that reads as if unlisted. -/
def Memory.wfFrom : Nat → Memory → Bool
  | _, [] => true
  | lo, (b, v) :: m => decide (lo ≤ b) && decide (v ≠ unlistedByte) && Memory.wfFrom (b + 1) m

/-- The canonical form of sequence space. -/
def Memory.wf (m : Memory) : Bool := Memory.wfFrom 0 m

/-- `n` bytes of sequence space from an address. -/
def Memory.bytes (m : Memory) (a : Nat) : Nat → List Byte
  | 0 => []
  | n + 1 => Memory.read m a :: Memory.bytes m (a + 1) n

/-- The word at an address of sequence space in the byte order of `P_BYTE_ORDER`: `MemRead(a, 2)` where it is in bounds
(R32, R33). -/
def State.wordAt (s : State) (a : Nat) : Word := wordOf s.cfg.byteOrder (s.mem.read a) (s.mem.read (a + 1))

/-- `P_NREGS`, the number of registers (R11). -/
def State.nregs (s : State) : Nat := s.regs.length

/-- The value of register `n`; used where `n` is below `P_NREGS` (R12). -/
def State.reg (s : State) (n : Nat) : Word := s.regs.getD n 0

/-- Writes register `n`; used where `n` is below `P_NREGS` (R12). No register is hard-wired (R12). -/
def State.setReg (s : State) (n : Nat) (v : Word) : State := { s with regs := s.regs.set n v }

/-- The register MUL writes the upper half of the product to (R14). -/
def highReg : Nat := 199

/-- Taking the one exception the machine has: `raise F(info)` ends the instruction, the mode records the fault, and
nothing else changes; `pc` stays at the instruction (R160, R171). -/
def State.raise (s : State) (c : Cause) : State := { s with mode := .faulted c }

/-- `refuse(reason)`: the mode records the reason, and nothing else changes (R162). -/
def State.refuse (s : State) (r : Reason) : State := { s with mode := .refused r }

/-- `emit E`: appends an event to the trace (R7, R26). -/
def State.emit (s : State) (e : Event) : State := { s with trace := s.trace ++ [e] }

/-- The built-ins the document names (R15). -/
inductive Builtin where
  /-- `$RTN`. -/
  | rtn
  /-- `$NBF`. -/
  | nbf
  /-- `$CBF`. -/
  | cbf
  deriving DecidableEq, Repr

/-- The register number a built-in is mapped onto by `P_BUILTIN_REG` (R15). -/
def builtinReg (m : BuiltinMap) : Builtin → Option Nat
  | .rtn => m.rtn
  | .nbf => m.nbf
  | .cbf => m.cbf

/-- A built-in's own cell. -/
def State.builtinCell (s : State) : Builtin → Word
  | .rtn => s.rtn
  | .nbf => s.nbf
  | .cbf => s.cbf

/-- Writes a built-in's own cell. -/
def State.setBuiltinCell (s : State) : Builtin → Word → State
  | .rtn, v => { s with rtn := v }
  | .nbf, v => { s with nbf := v }
  | .cbf, v => { s with cbf := v }

/-- The value of a built-in: the register it is mapped onto, or else its own cell (R15). -/
def State.builtin (s : State) (b : Builtin) : Word :=
  match builtinReg s.cfg.builtinReg b with
  | some n => s.reg n
  | none => s.builtinCell b

/-- Writes a built-in: one storage, the register it is mapped onto or else its own cell (R15). -/
def State.setBuiltin (s : State) (b : Builtin) (v : Word) : State :=
  match builtinReg s.cfg.builtinReg b with
  | some n => s.setReg n v
  | none => s.setBuiltinCell b v

/-- The ID made of its low and its high word (R95). -/
def seqId (lo hi : Word) : SeqId := hi ++ lo

/-- The opcode byte can head a findable sequence: VID, or SID in the all-immediate form (R37). -/
def headerOpcode (op : Byte) : Bool := decide (op = 0xE1) || decide (op = 0xAC)

/-- The bytes of a sequence header (R37). -/
def headerLength : Nat := 7

/-- `FindSeq` from a header address, visiting at most `fuel` headers (R38). -/
def State.findFrom (s : State) (id : SeqId) : Nat → Nat → Option Nat
  | 0, _ => none
  | fuel + 1, a =>
    if a + headerLength > s.cfg.seqSize then none
    else if !headerOpcode (s.mem.read a) then none
    else if seqId (s.wordAt (a + 1)) (s.wordAt (a + 3)) = id then some a
    else s.findFrom id fuel (s.wordAt (a + 5)).toNat

/-- `FindSeq(id)`: the address of the first header on the chain that carries the ID (R38). -/
def State.findSeq (s : State) (id : SeqId) : Option Nat := s.findFrom id s.cfg.seqSize s.cfg.seqListHead.toNat

/-- `StartSeq(id)`: enters a sequence at its header (R105). -/
def State.startSeq (s : State) (id : SeqId) : State :=
  match s.findSeq id with
  | none => s.raise (.seqNotFound id)
  | some a => { s with pc := a, delayTime := s.nowTicks, mode := .running }

/-- `EndNormal`: returns to the caller, or starts the next sequence of the list, or goes idle (R99). -/
def State.endNormal (s : State) : State :=
  match s.callStack, s.seqList with
  | f :: stack, _ => { s with callStack := stack, pc := f.ret, delayTime := f.delay, mode := .running }
  | [], id :: ids => { s with seqList := ids }.startSeq id
  | [], [] => { s with mode := .idle }

end Sys2Proof.Machine
end

