-- ==== Sys2Proof/Machine/Operands.lean ====
section
/-! DEFINITION. Operand values, the check of an instruction's register bytes, the address of the next instruction, and
the readings of a 16-bit value (spec/30_encoding.md R54, R55; spec/00_scope.md R7). -/

namespace Sys2Proof.Machine

/-- `s16(v)`: the two's-complement reading of a word (R7). -/
def s16 (v : Word) : Int := v.toInt

/-- `u16(v)`: the unsigned reading of a word (R7). -/
def u16 (v : Word) : Nat := v.toNat

/-- `trunc16(n)`: an integer reduced modulo 65536 (R7). -/
def trunc16 (n : Int) : Word := BitVec.ofInt 16 n

/-- `val(k)`: the value of an operand (R55). -/
def State.val (s : State) : Opnd → Word
  | .reg r => s.reg r.toNat
  | .imm v => v
  | .addr a => a

/-- The register number of an operand, if it is a register operand and the number is not below `P_NREGS`. -/
def State.badOperand (s : State) : Opnd → Option Nat
  | .reg r => if s.nregs ≤ r.toNat then some r.toNat else none
  | .imm _ => none
  | .addr _ => none

/-- Runs an instruction's body once all its register bytes are in range; otherwise raises `RegIndex` for the first that
is not, in operand order (R12, R164 (4)). -/
def State.withOperands (s : State) (ops : List Opnd) (body : State) : State :=
  match ops.findSome? s.badOperand with
  | some n => s.raise (.regIndex n)
  | none => body

/-- `npc`: the address after the last byte of an instruction with these operands (R54). -/
def State.npc (s : State) (ops : List Opnd) : Nat := s.pc + 1 + operandBytes ops

/-- The upper 13 bits of an FID, which select the frame definition block (R144). -/
def fdbKey (fid : Word) : BitVec 13 := fid.extractLsb' 3 13

/-- The high-order 24 bits of a target ID, which the Pointing Control Table is searched by (R147). -/
def pctKey (id : SeqId) : BitVec 24 := id.extractLsb' 8 24

end Sys2Proof.Machine
end

