-- ==== Sys2Proof/Machine/Arithmetic.lean ====
section
/-! DEFINITION. The arithmetic instructions ADD, SUB, MUL, DIV, INC, DEC (spec/40_arithmetic.md R70 to R77): first each
instruction over its operands, then one meaning per table row. -/

namespace Sys2Proof.Machine

/-- The product whose 32-bit pattern MUL splits, under the reading `P_SIGNED` selects (R73). -/
def product (signed : Bool) (a b : Word) : BitVec 32 :=
  if signed then BitVec.ofInt 32 (s16 a * s16 b) else BitVec.ofInt 32 ((u16 a : Int) * u16 b)

/-- The quotient of a nonzero divisor under the reading `P_SIGNED` selects, rounded toward zero (R74). -/
def quotient (signed : Bool) (a b : Word) : Word :=
  if signed then trunc16 (Int.tdiv (s16 a) (s16 b)) else trunc16 ((u16 a / u16 b : Nat) : Int)

/-- Writes a result to the destination register and goes on at the next instruction (R70 (f)). -/
def State.finish (s : State) (rd : Reg) (v : Word) (npc : Nat) : State := { s.setReg rd.toNat v with pc := npc }

/-- ADD (R71): the low 16 bits of the sum. -/
def addOp (rd : Reg) (a b : Opnd) (s : State) : State :=
  s.withOperands [.reg rd, a, b] (s.finish rd (trunc16 (u16 (s.val a) + u16 (s.val b))) (s.npc [.reg rd, a, b]))

/-- SUB (R72): the low 16 bits of the difference. -/
def subOp (rd : Reg) (a b : Opnd) (s : State) : State :=
  s.withOperands [.reg rd, a, b] (s.finish rd (trunc16 (u16 (s.val a) - u16 (s.val b))) (s.npc [.reg rd, a, b]))

/-- MUL (R73): the lower half of the product to the destination, the upper half to register 199; refused where the
destination is register 199. -/
def mulOp (rd : Reg) (a b : Opnd) (s : State) : State :=
  s.withOperands [.reg rd, a, b] (
    if rd.toNat = highReg then s.refuse .mulDestIsR199
    else
      let p := product s.cfg.signed (s.val a) (s.val b)
      (s.setReg rd.toNat (p.extractLsb' 0 16)).finish (BitVec.ofNat 8 highReg) (p.extractLsb' 16 16)
        (s.npc [.reg rd, a, b]))

/-- DIV (R74): a zero divisor and the signed -32768 / -1 are faults; no remainder is kept. -/
def divOp (rd : Reg) (a b : Opnd) (s : State) : State :=
  s.withOperands [.reg rd, a, b] (
    if s.val b = 0 then s.raise .divideByZero
    else if s.cfg.signed = true ∧ s.val a = 0x8000 ∧ s.val b = 0xFFFF then s.raise .divideOverflow
    else s.finish rd (quotient s.cfg.signed (s.val a) (s.val b)) (s.npc [.reg rd, a, b]))

/-- INC (R75). -/
def incOp (rd : Reg) (s : State) : State :=
  s.withOperands [.reg rd] (s.finish rd (trunc16 (u16 (s.reg rd.toNat) + 1)) (s.npc [.reg rd]))

/-- DEC (R76). -/
def decOp (rd : Reg) (s : State) : State :=
  s.withOperands [.reg rd] (s.finish rd (trunc16 (u16 (s.reg rd.toNat) - 1)) (s.npc [.reg rd]))

/-- ADD RRR, opcode 01 (R71). -/
def execAddRRR (op1 op2 op3 : Reg) (s : State) : Result := .next (addOp op1 (.reg op2) (.reg op3) s)

/-- ADD RRI, opcode 03 (R71). -/
def execAddRRI (op1 op2 : Reg) (op3 : Word) (s : State) : Result := .next (addOp op1 (.reg op2) (.imm op3) s)

/-- ADD RIR, opcode 05 (R71). -/
def execAddRIR (op1 : Reg) (op2 : Word) (op3 : Reg) (s : State) : Result := .next (addOp op1 (.imm op2) (.reg op3) s)

/-- ADD RII, opcode 07 (R71). -/
def execAddRII (op1 : Reg) (op2 op3 : Word) (s : State) : Result := .next (addOp op1 (.imm op2) (.imm op3) s)

/-- SUB RRR, opcode 11 (R72). -/
def execSubRRR (op1 op2 op3 : Reg) (s : State) : Result := .next (subOp op1 (.reg op2) (.reg op3) s)

/-- SUB RRI, opcode 13 (R72). -/
def execSubRRI (op1 op2 : Reg) (op3 : Word) (s : State) : Result := .next (subOp op1 (.reg op2) (.imm op3) s)

/-- SUB RIR, opcode 15 (R72). -/
def execSubRIR (op1 : Reg) (op2 : Word) (op3 : Reg) (s : State) : Result := .next (subOp op1 (.imm op2) (.reg op3) s)

/-- SUB RII, opcode 17 (R72). -/
def execSubRII (op1 : Reg) (op2 op3 : Word) (s : State) : Result := .next (subOp op1 (.imm op2) (.imm op3) s)

/-- MUL RRR, opcode 21 (R73). -/
def execMulRRR (op1 op2 op3 : Reg) (s : State) : Result := .next (mulOp op1 (.reg op2) (.reg op3) s)

/-- MUL RRI, opcode 23 (R73). -/
def execMulRRI (op1 op2 : Reg) (op3 : Word) (s : State) : Result := .next (mulOp op1 (.reg op2) (.imm op3) s)

/-- MUL RIR, opcode 25 (R73). -/
def execMulRIR (op1 : Reg) (op2 : Word) (op3 : Reg) (s : State) : Result := .next (mulOp op1 (.imm op2) (.reg op3) s)

/-- MUL RII, opcode 27 (R73). -/
def execMulRII (op1 : Reg) (op2 op3 : Word) (s : State) : Result := .next (mulOp op1 (.imm op2) (.imm op3) s)

/-- DIV RRR, opcode 31 (R74). -/
def execDivRRR (op1 op2 op3 : Reg) (s : State) : Result := .next (divOp op1 (.reg op2) (.reg op3) s)

/-- DIV RRI, opcode 33 (R74). -/
def execDivRRI (op1 op2 : Reg) (op3 : Word) (s : State) : Result := .next (divOp op1 (.reg op2) (.imm op3) s)

/-- DIV RIR, opcode 35 (R74). -/
def execDivRIR (op1 : Reg) (op2 : Word) (op3 : Reg) (s : State) : Result := .next (divOp op1 (.imm op2) (.reg op3) s)

/-- DIV RII, opcode 37 (R74). -/
def execDivRII (op1 : Reg) (op2 op3 : Word) (s : State) : Result := .next (divOp op1 (.imm op2) (.imm op3) s)

/-- INC R, opcode C6 (R75). -/
def execIncR (op1 : Reg) (s : State) : Result := .next (incOp op1 s)

/-- DEC R, opcode D0 (R76). -/
def execDecR (op1 : Reg) (s : State) : Result := .next (decOp op1 s)

end Sys2Proof.Machine
end

