-- ==== Sys2Proof/Machine/Assignment.lean ====
section
/-! DEFINITION. The assignment instructions SET, SETREGS, LDA, LDR (spec/44_assignment.md R130 to R134): first each
instruction over its operands, then one meaning per table row. -/

namespace Sys2Proof.Machine

/-- SET (R131). -/
def setOp (rd : Reg) (v : Opnd) (s : State) : State :=
  s.withOperands [.reg rd, v] { s.setReg rd.toNat (s.val v) with pc := s.npc [.reg rd, v] }

/-- The register file after the `n` value words from address `h` are written to the registers from `d` (R132). -/
def State.loadRun (s : State) : Nat → Nat → Nat → List Word → List Word
  | 0, _, _, regs => regs
  | n + 1, d, h, regs => s.loadRun n (d + 1) (h + 2) (regs.set d (s.wordAt h))

/-- SETREGS (R132): the whole run of destinations and of value words is checked before any write. -/
def setregsOp (d n : Opnd) (s : State) : State :=
  s.withOperands [d, n] (
    let first := u16 (s.val d)
    let count := u16 (s.val n)
    let h := s.npc [d, n]
    if 0 < count ∧ s.nregs < first + count then s.raise (.regIndex s.nregs)
    else if s.cfg.seqSize < h + 2 * count then s.raise (.fetchBounds h)
    else { s with regs := s.loadRun count first h s.regs, pc := h + 2 * count })

/-- `P_CC_ADMIT(a)` (R36). -/
def ccAdmits (c : Config) (a : Word) : Bool := !c.ccExcluded.contains a

/-- LDA (R133): the word the oracle answers for an admitted address of the CC data segment (R36). -/
def ldaOp (rd : Reg) (a : Opnd) (s : State) : State :=
  s.withOperands [.reg rd, a] (
    if ccAdmits s.cfg (s.val a) then
      { s.setReg rd.toNat (Config.ccWord s.draws s.cfg.ccAddrUnit (s.val a)) with
        draws := s.draws + 1
        pc := s.npc [.reg rd, a] }
    else s.raise (.ccAddress (s.val a)))

/-- LDR (R134): loads the register the pointer's old value names, and increments the pointer; refused where both operands
are the same register. -/
def ldrOp (rd rp : Reg) (s : State) : State :=
  s.withOperands [.reg rd, .reg rp] (
    let p := s.reg rp.toNat
    if rd = rp then s.refuse .ldrSameRegister
    else if s.nregs ≤ u16 p then s.raise (.regIndex (u16 p))
    else
      { (s.setReg rd.toNat (s.reg (u16 p))).setReg rp.toNat (trunc16 (u16 p + 1)) with
        pc := s.npc [.reg rd, .reg rp] })

/-- SET RR, opcode 80 (R131). -/
def execSetRR (op1 op2 : Reg) (s : State) : Result := .next (setOp op1 (.reg op2) s)

/-- SET RI, opcode 84 (R131). -/
def execSetRI (op1 : Reg) (op2 : Word) (s : State) : Result := .next (setOp op1 (.imm op2) s)

/-- SETREGS RR, opcode 83 (R132). -/
def execSetregsRR (op1 op2 : Reg) (s : State) : Result := .next (setregsOp (.reg op1) (.reg op2) s)

/-- SETREGS RI, opcode 87 (R132). -/
def execSetregsRI (op1 : Reg) (op2 : Word) (s : State) : Result := .next (setregsOp (.reg op1) (.imm op2) s)

/-- SETREGS IR, opcode 8B (R132). -/
def execSetregsIR (op1 : Word) (op2 : Reg) (s : State) : Result := .next (setregsOp (.imm op1) (.reg op2) s)

/-- SETREGS II, opcode 8F (R132). -/
def execSetregsII (op1 op2 : Word) (s : State) : Result := .next (setregsOp (.imm op1) (.imm op2) s)

/-- LDA RR, opcode A1 (R133). -/
def execLdaRR (op1 op2 : Reg) (s : State) : Result := .next (ldaOp op1 (.reg op2) s)

/-- LDA RI, opcode A5 (R133). -/
def execLdaRI (op1 : Reg) (op2 : Word) (s : State) : Result := .next (ldaOp op1 (.imm op2) s)

/-- LDR RR, opcode A3 (R134). -/
def execLdrRR (op1 op2 : Reg) (s : State) : Result := .next (ldrOp op1 op2 s)

end Sys2Proof.Machine
end

