-- ==== Sys2Proof/Machine/Flags.lean ====
section
/-! DEFINITION. The machine has no flags (spec/10_state.md R27): what stands here in their place is the comparison of two
values that every conditional branch carries in its operands (spec/41_branch.md R91). -/

namespace Sys2Proof.Machine

/-- `lt(a, b)` under the reading `P_SIGNED` selects (R91). -/
def wordLt (signed : Bool) (a b : Word) : Bool :=
  if signed then decide (s16 a < s16 b) else decide (u16 a < u16 b)

/-- `le(a, b) = lt(a, b) or a = b` (R91). -/
def wordLe (signed : Bool) (a b : Word) : Bool := wordLt signed a b || decide (a = b)

/-- `gt(a, b) = lt(b, a)` (R91). -/
def wordGt (signed : Bool) (a b : Word) : Bool := wordLt signed b a

/-- `ge(a, b) = le(b, a)` (R91). -/
def wordGe (signed : Bool) (a b : Word) : Bool := wordLe signed b a

end Sys2Proof.Machine
end

