-- ==== Sys2Proof/Machine/Branch.lean ====
section
/-! DEFINITION. The branch instructions (spec/41_branch.md R80 to R91): the shared `Branch(cond)`, each instruction over
its operands, then one meaning per table row. -/

namespace Sys2Proof.Machine

/-- The target is not in sequence space (R81). -/
def State.outOfBounds (s : State) (t : Nat) : Bool := decide (s.cfg.seqSize ≤ t)

/-- `Branch(cond)` (R80, R81, R91): the bound check of the target where `P_BOUNDS_CHECK` asks for it, then the jump or
the next instruction. -/
def branchOp (ops : List Opnd) (target : Opnd) (cond : Bool) (s : State) : State :=
  s.withOperands ops (
    let t := u16 (s.val target)
    if s.cfg.boundsCheck = .always ∧ s.outOfBounds t then s.raise (.branchBounds t)
    else if cond then
      if s.cfg.boundsCheck = .taken ∧ s.outOfBounds t then s.raise (.branchBounds t)
      else { s with pc := t }
    else { s with pc := s.npc ops })

/-- BEQ (R82). -/
def beqOp (t a b : Opnd) (s : State) : State := branchOp [t, a, b] t (decide (s.val a = s.val b)) s

/-- BNE (R83). -/
def bneOp (t a b : Opnd) (s : State) : State := branchOp [t, a, b] t (decide (s.val a ≠ s.val b)) s

/-- BLT (R84). -/
def bltOp (t a b : Opnd) (s : State) : State := branchOp [t, a, b] t (wordLt s.cfg.signed (s.val a) (s.val b)) s

/-- BLE (R85). -/
def bleOp (t a b : Opnd) (s : State) : State := branchOp [t, a, b] t (wordLe s.cfg.signed (s.val a) (s.val b)) s

/-- BGT (R86). -/
def bgtOp (t a b : Opnd) (s : State) : State := branchOp [t, a, b] t (wordGt s.cfg.signed (s.val a) (s.val b)) s

/-- BGE (R87). -/
def bgeOp (t a b : Opnd) (s : State) : State := branchOp [t, a, b] t (wordGe s.cfg.signed (s.val a) (s.val b)) s

/-- BNZ (R88). -/
def bnzOp (t a : Opnd) (s : State) : State := branchOp [t, a] t (decide (s.val a ≠ 0)) s

/-- BZ (R89). -/
def bzOp (t a : Opnd) (s : State) : State := branchOp [t, a] t (decide (s.val a = 0)) s

/-- UBR (R90). -/
def ubrOp (t : Opnd) (s : State) : State := branchOp [t] t true s

/-- BEQ RRR, opcode 00 (R82). -/
def execBeqRRR (op1 op2 op3 : Reg) (s : State) : Result := .next (beqOp (.reg op1) (.reg op2) (.reg op3) s)

/-- BEQ RRI, opcode 02 (R82). -/
def execBeqRRI (op1 op2 : Reg) (op3 : Word) (s : State) : Result := .next (beqOp (.reg op1) (.reg op2) (.imm op3) s)

/-- BEQ &RR, opcode 08 (R82). -/
def execBeqARR (op1 : Word) (op2 op3 : Reg) (s : State) : Result := .next (beqOp (.addr op1) (.reg op2) (.reg op3) s)

/-- BEQ &RI, opcode 0A (R82). -/
def execBeqARI (op1 : Word) (op2 : Reg) (op3 : Word) (s : State) : Result := .next (beqOp (.addr op1) (.reg op2) (.imm op3) s)

/-- BNE RRR, opcode 10 (R83). -/
def execBneRRR (op1 op2 op3 : Reg) (s : State) : Result := .next (bneOp (.reg op1) (.reg op2) (.reg op3) s)

/-- BNE RRI, opcode 12 (R83). -/
def execBneRRI (op1 op2 : Reg) (op3 : Word) (s : State) : Result := .next (bneOp (.reg op1) (.reg op2) (.imm op3) s)

/-- BNE &RR, opcode 18 (R83). -/
def execBneARR (op1 : Word) (op2 op3 : Reg) (s : State) : Result := .next (bneOp (.addr op1) (.reg op2) (.reg op3) s)

/-- BNE &RI, opcode 1A (R83). -/
def execBneARI (op1 : Word) (op2 : Reg) (op3 : Word) (s : State) : Result := .next (bneOp (.addr op1) (.reg op2) (.imm op3) s)

/-- BLT RRR, opcode 20 (R84). -/
def execBltRRR (op1 op2 op3 : Reg) (s : State) : Result := .next (bltOp (.reg op1) (.reg op2) (.reg op3) s)

/-- BLT RRI, opcode 22 (R84). -/
def execBltRRI (op1 op2 : Reg) (op3 : Word) (s : State) : Result := .next (bltOp (.reg op1) (.reg op2) (.imm op3) s)

/-- BLT &RR, opcode 28 (R84). -/
def execBltARR (op1 : Word) (op2 op3 : Reg) (s : State) : Result := .next (bltOp (.addr op1) (.reg op2) (.reg op3) s)

/-- BLT &RI, opcode 2A (R84). -/
def execBltARI (op1 : Word) (op2 : Reg) (op3 : Word) (s : State) : Result := .next (bltOp (.addr op1) (.reg op2) (.imm op3) s)

/-- BLE RRR, opcode 30 (R85). -/
def execBleRRR (op1 op2 op3 : Reg) (s : State) : Result := .next (bleOp (.reg op1) (.reg op2) (.reg op3) s)

/-- BLE RRI, opcode 32 (R85). -/
def execBleRRI (op1 op2 : Reg) (op3 : Word) (s : State) : Result := .next (bleOp (.reg op1) (.reg op2) (.imm op3) s)

/-- BLE &RR, opcode 38 (R85). -/
def execBleARR (op1 : Word) (op2 op3 : Reg) (s : State) : Result := .next (bleOp (.addr op1) (.reg op2) (.reg op3) s)

/-- BLE &RI, opcode 3A (R85). -/
def execBleARI (op1 : Word) (op2 : Reg) (op3 : Word) (s : State) : Result := .next (bleOp (.addr op1) (.reg op2) (.imm op3) s)

/-- BGT RRR, opcode 40 (R86). -/
def execBgtRRR (op1 op2 op3 : Reg) (s : State) : Result := .next (bgtOp (.reg op1) (.reg op2) (.reg op3) s)

/-- BGT RRI, opcode 42 (R86). -/
def execBgtRRI (op1 op2 : Reg) (op3 : Word) (s : State) : Result := .next (bgtOp (.reg op1) (.reg op2) (.imm op3) s)

/-- BGT &RR, opcode 48 (R86). -/
def execBgtARR (op1 : Word) (op2 op3 : Reg) (s : State) : Result := .next (bgtOp (.addr op1) (.reg op2) (.reg op3) s)

/-- BGT &RI, opcode 4A (R86). -/
def execBgtARI (op1 : Word) (op2 : Reg) (op3 : Word) (s : State) : Result := .next (bgtOp (.addr op1) (.reg op2) (.imm op3) s)

/-- BGE RRR, opcode 50 (R87). -/
def execBgeRRR (op1 op2 op3 : Reg) (s : State) : Result := .next (bgeOp (.reg op1) (.reg op2) (.reg op3) s)

/-- BGE RRI, opcode 52 (R87). -/
def execBgeRRI (op1 op2 : Reg) (op3 : Word) (s : State) : Result := .next (bgeOp (.reg op1) (.reg op2) (.imm op3) s)

/-- BGE &RR, opcode 58 (R87). -/
def execBgeARR (op1 : Word) (op2 op3 : Reg) (s : State) : Result := .next (bgeOp (.addr op1) (.reg op2) (.reg op3) s)

/-- BGE &RI, opcode 5A (R87). -/
def execBgeARI (op1 : Word) (op2 : Reg) (op3 : Word) (s : State) : Result := .next (bgeOp (.addr op1) (.reg op2) (.imm op3) s)

/-- BNZ RR, opcode 82 (R88). -/
def execBnzRR (op1 op2 : Reg) (s : State) : Result := .next (bnzOp (.reg op1) (.reg op2) s)

/-- BNZ &R, opcode 86 (R88). -/
def execBnzAR (op1 : Word) (op2 : Reg) (s : State) : Result := .next (bnzOp (.addr op1) (.reg op2) s)

/-- BZ RR, opcode 90 (R89). -/
def execBzRR (op1 op2 : Reg) (s : State) : Result := .next (bzOp (.reg op1) (.reg op2) s)

/-- BZ &R, opcode 98 (R89). -/
def execBzAR (op1 : Word) (op2 : Reg) (s : State) : Result := .next (bzOp (.addr op1) (.reg op2) s)

/-- UBR R, opcode C2 (R90). -/
def execUbrR (op1 : Reg) (s : State) : Result := .next (ubrOp (.reg op1) s)

/-- UBR &, opcode CA (R90). -/
def execUbrA (op1 : Word) (s : State) : Result := .next (ubrOp (.addr op1) s)

end Sys2Proof.Machine
end

