-- ==== Sys2Proof/Machine/Observing.lean ====
section
/-! DEFINITION. The observing instructions FRAME, FRMPF, SAMP, STTG, LOCKBUF, RESETAEC, STARTAVE, UPDIMAX
(spec/45_observing.md R140 to R152): the environment functions, each instruction over its operands, then one meaning per
table row. -/

namespace Sys2Proof.Machine

/-- `HasFdb(key)` (R152). -/
def hasFdb (t : Tables) (key : BitVec 13) : Bool := t.fdbKeys.contains key

/-- `HasPzt(i)`; entry 0, the nominal positions, always exists (R152). -/
def hasPzt (t : Tables) (i : Word) : Bool := decide (i = 0) || t.pztIndices.contains i

/-- `PctFind(key)`: of several targets with the same key the last is used (R152). -/
def pctFind (t : Tables) (key : BitVec 24) : Option WedgePositions :=
  (t.pct.reverse.find? (fun e => decide (e.1 = key))).map (·.2)

/-- `HasCurrentBuffer(flare)`: one of the buffers is current (R152). -/
def hasCurrentBuffer (f : Flare) : Bool := f.buffers.any (fun b => decide (f.current = some b.1))

/-- `Lock(flare)`: the status of the current buffer becomes locked (R152). -/
def lockFlare (f : Flare) : Flare :=
  { f with buffers := f.buffers.map (fun b => if f.current = some b.1 then (b.1, .locked) else b) }

/-- FRAME (R141): hands the picture to the CC and parks the sequence. -/
def frameOp (fid : Opnd) (s : State) : State :=
  s.withOperands [fid] (
    let f := s.val fid
    if hasFdb s.tables (fdbKey f) then
      { s.emit (.picture f none none) with pc := s.npc [fid], mode := .waitFrame }
    else s.raise (.tableLookup .frame (u16 f)))

/-- FRMPF (R143): as FRAME, with a PZT offset index and a signed focus offset. -/
def frmpfOp (fid pzto fo : Opnd) (s : State) : State :=
  s.withOperands [fid, pzto, fo] (
    let f := s.val fid
    let z := s.val pzto
    if hasFdb s.tables (fdbKey f) then
      if hasPzt s.tables z then
        { s.emit (.picture f (some z) (some (s16 (s.val fo)))) with pc := s.npc [fid, pzto, fo], mode := .waitFrame }
      else s.raise (.tableLookup .pzt (u16 z))
    else s.raise (.tableLookup .frame (u16 f)))

/-- SAMP (R145): a zero in either operand means do not change. -/
def sampOp (amp off : Opnd) (s : State) : State :=
  s.withOperands [amp, off] (
    let a := s.val amp
    let o := s.val off
    { s.emit (.samp a o) with
      camAmp := if a ≠ 0 then a else s.camAmp
      camAdcOffset := if o ≠ 0 then o else s.camAdcOffset
      pc := s.npc [amp, off] })

/-- STTG (R146): hands the wedge positions of the target to the CC and parks the sequence. -/
def sttgOp (lo hi : Opnd) (s : State) : State :=
  s.withOperands [lo, hi] (
    let id := seqId (s.val lo) (s.val hi)
    match pctFind s.tables (pctKey id) with
    | none => s.raise (.tableLookup .pct id.toNat)
    | some w => { s.emit (.target id) with wedgeRequest := w, pc := s.npc [lo, hi], mode := .waitSlew })

/-- The state after the current flare buffer is locked, `$NBF` decremented and `$CBF` advanced (R148). -/
def State.lockCurrent (s : State) : State :=
  let locked := lockFlare s.flare
  let next := Config.nextAvailable locked
  let s1 := { s with flare := locked }
  let s2 := s1.setBuiltin .nbf (trunc16 (u16 (s1.builtin .nbf) - 1))
  let s3 := { s2 with flare := { locked with current := next.1 } }
  (s3.setBuiltin .cbf next.2).emit .lockBuf

/-- LOCKBUF (R148): no effect but the advance of `pc` where no buffer is current. -/
def lockbufOp (s : State) : State :=
  if hasCurrentBuffer s.flare then { s.lockCurrent with pc := s.npc [] } else { s with pc := s.npc [] }

/-- RESETAEC (R149): every current level takes its default. -/
def resetaecOp (s : State) : State := { s.emit .resetAec with aecCur := s.aecDef, pc := s.npc [] }

/-- STARTAVE (R150). -/
def startaveOp (s : State) : State := { s.emit .startAve with startAve := true, pc := s.npc [] }

/-- UPDIMAX (R151): the IMAX coordinates the oracle answers. -/
def updimaxOp (s : State) : State :=
  { s.emit .updImax with
    imaxRow := (Config.imaxOf s.draws).1
    imaxCol := (Config.imaxOf s.draws).2
    draws := s.draws + 1
    pc := s.npc [] }

/-- FRAME R, opcode C0 (R141). -/
def execFrameR (op1 : Reg) (s : State) : Result := .next (frameOp (.reg op1) s)

/-- FRAME I, opcode C8 (R141). -/
def execFrameI (op1 : Word) (s : State) : Result := .next (frameOp (.imm op1) s)

/-- FRMPF RRR, opcode 70 (R143). -/
def execFrmpfRRR (op1 op2 op3 : Reg) (s : State) : Result := .next (frmpfOp (.reg op1) (.reg op2) (.reg op3) s)

/-- FRMPF RRI, opcode 72 (R143). -/
def execFrmpfRRI (op1 op2 : Reg) (op3 : Word) (s : State) : Result := .next (frmpfOp (.reg op1) (.reg op2) (.imm op3) s)

/-- FRMPF RIR, opcode 74 (R143). -/
def execFrmpfRIR (op1 : Reg) (op2 : Word) (op3 : Reg) (s : State) : Result := .next (frmpfOp (.reg op1) (.imm op2) (.reg op3) s)

/-- FRMPF RII, opcode 76 (R143). -/
def execFrmpfRII (op1 : Reg) (op2 op3 : Word) (s : State) : Result := .next (frmpfOp (.reg op1) (.imm op2) (.imm op3) s)

/-- FRMPF IRR, opcode 78 (R143). -/
def execFrmpfIRR (op1 : Word) (op2 op3 : Reg) (s : State) : Result := .next (frmpfOp (.imm op1) (.reg op2) (.reg op3) s)

/-- FRMPF IRI, opcode 7A (R143). -/
def execFrmpfIRI (op1 : Word) (op2 : Reg) (op3 : Word) (s : State) : Result := .next (frmpfOp (.imm op1) (.reg op2) (.imm op3) s)

/-- FRMPF IIR, opcode 7C (R143). -/
def execFrmpfIIR (op1 op2 : Word) (op3 : Reg) (s : State) : Result := .next (frmpfOp (.imm op1) (.imm op2) (.reg op3) s)

/-- FRMPF III, opcode 7E (R143). -/
def execFrmpfIII (op1 op2 op3 : Word) (s : State) : Result := .next (frmpfOp (.imm op1) (.imm op2) (.imm op3) s)

/-- SAMP RR, opcode 91 (R145). -/
def execSampRR (op1 op2 : Reg) (s : State) : Result := .next (sampOp (.reg op1) (.reg op2) s)

/-- SAMP RI, opcode 95 (R145). -/
def execSampRI (op1 : Reg) (op2 : Word) (s : State) : Result := .next (sampOp (.reg op1) (.imm op2) s)

/-- SAMP IR, opcode 99 (R145). -/
def execSampIR (op1 : Word) (op2 : Reg) (s : State) : Result := .next (sampOp (.imm op1) (.reg op2) s)

/-- SAMP II, opcode 9D (R145). -/
def execSampII (op1 op2 : Word) (s : State) : Result := .next (sampOp (.imm op1) (.imm op2) s)

/-- STTG RR, opcode 83 (R146). -/
def execSttgRR (op1 op2 : Reg) (s : State) : Result := .next (sttgOp (.reg op1) (.reg op2) s)

/-- STTG RI, opcode 87 (R146). -/
def execSttgRI (op1 : Reg) (op2 : Word) (s : State) : Result := .next (sttgOp (.reg op1) (.imm op2) s)

/-- STTG IR, opcode 8B (R146). -/
def execSttgIR (op1 : Word) (op2 : Reg) (s : State) : Result := .next (sttgOp (.imm op1) (.reg op2) s)

/-- STTG II, opcode 8F (R146). -/
def execSttgII (op1 op2 : Word) (s : State) : Result := .next (sttgOp (.imm op1) (.imm op2) s)

/-- LOCKBUF, opcode EC (R148). -/
def execLockbuf (s : State) : Result := .next (lockbufOp s)

/-- RESETAEC, opcode EE (R149). -/
def execResetaec (s : State) : Result := .next (resetaecOp s)

/-- STARTAVE, opcode F0 (R150). -/
def execStartave (s : State) : Result := .next (startaveOp s)

/-- UPDIMAX, opcode F2 (R151). -/
def execUpdimax (s : State) : Result := .next (updimaxOp s)

end Sys2Proof.Machine
end

