-- ==== Sys2Proof/Machine/SequenceControl.lean ====
section
/-! DEFINITION. The sequence related instructions CLL, SID, VID, RET, EXIT, TERM, ABORT (spec/42_sequence_control.md R95
to R106): first each instruction over its operands, then one meaning per table row. -/

namespace Sys2Proof.Machine

/-- CLL (R96): pushes the return address and the delay time, and goes on at the header of the called sequence. -/
def cllOp (lo hi : Opnd) (s : State) : State :=
  s.withOperands [lo, hi] (
    let id := seqId (s.val lo) (s.val hi)
    if s.callStack.length = s.cfg.callDepth then s.raise .callDepth
    else
      match s.findSeq id with
      | none => s.raise (.seqNotFound id)
      | some a =>
        { s with
          callStack := ⟨s.npc [lo, hi], s.delayTime⟩ :: s.callStack
          delayTime := if s.cfg.delayOnCall = .now then s.nowTicks else s.delayTime
          pc := a })

/-- SID (R97): places the ID in housekeeping telemetry; OP3 is stepped over. -/
def sidOp (lo hi next : Opnd) (s : State) : State :=
  s.withOperands [lo, hi, next] (
    let id := seqId (s.val lo) (s.val hi)
    { s.emit (.telemetry id) with hkSeqId := id, pc := s.npc [lo, hi, next] })

/-- VID (R98): nothing but the step over its operands. -/
def vidOp (lo hi next : Opnd) (s : State) : State :=
  s.withOperands [lo, hi, next] { s with pc := s.npc [lo, hi, next] }

/-- RET (R100). -/
def retOp (s : State) : State := s.endNormal

/-- EXIT (R101): sets `$RTN`, then ends as RET does. -/
def exitOp (v : Opnd) (s : State) : State := s.withOperands [v] (s.setBuiltin .rtn (s.val v)).endNormal

/-- TERM (R102): drops the call stack and the list; the pending command is kept. -/
def termOp (s : State) : State := { s with callStack := [], seqList := [], mode := .idle }

/-- ABORT (R103): drops the call stack, the list and the pending command. -/
def abortOp (s : State) : State := { s with callStack := [], seqList := [], pending := none, mode := .idle }

/-- CLL RR, opcode 81 (R96). -/
def execCllRR (op1 op2 : Reg) (s : State) : Result := .next (cllOp (.reg op1) (.reg op2) s)

/-- CLL RI, opcode 85 (R96). -/
def execCllRI (op1 : Reg) (op2 : Word) (s : State) : Result := .next (cllOp (.reg op1) (.imm op2) s)

/-- CLL IR, opcode 89 (R96). -/
def execCllIR (op1 : Word) (op2 : Reg) (s : State) : Result := .next (cllOp (.imm op1) (.reg op2) s)

/-- CLL II, opcode 8D (R96). -/
def execCllII (op1 op2 : Word) (s : State) : Result := .next (cllOp (.imm op1) (.imm op2) s)

/-- SID RRI, opcode A0 (R97). -/
def execSidRRI (op1 op2 : Reg) (op3 : Word) (s : State) : Result := .next (sidOp (.reg op1) (.reg op2) (.imm op3) s)

/-- SID RII, opcode A4 (R97). -/
def execSidRII (op1 : Reg) (op2 op3 : Word) (s : State) : Result := .next (sidOp (.reg op1) (.imm op2) (.imm op3) s)

/-- SID IRI, opcode A8 (R97). -/
def execSidIRI (op1 : Word) (op2 : Reg) (op3 : Word) (s : State) : Result := .next (sidOp (.imm op1) (.reg op2) (.imm op3) s)

/-- SID III, opcode AC (R97). -/
def execSidIII (op1 op2 op3 : Word) (s : State) : Result := .next (sidOp (.imm op1) (.imm op2) (.imm op3) s)

/-- VID III, opcode E1 (R98). -/
def execVidIII (op1 op2 op3 : Word) (s : State) : Result := .next (vidOp (.imm op1) (.imm op2) (.imm op3) s)

/-- RET, opcode E0 (R100). -/
def execRet (s : State) : Result := .next (retOp s)

/-- EXIT R, opcode B1 (R101). -/
def execExitR (op1 : Reg) (s : State) : Result := .next (exitOp (.reg op1) s)

/-- EXIT I, opcode B9 (R101). -/
def execExitI (op1 : Word) (s : State) : Result := .next (exitOp (.imm op1) s)

/-- TERM, opcode E2 (R102). -/
def execTerm (s : State) : Result := .next (termOp s)

/-- ABORT, opcode E4 (R103). -/
def execAbort (s : State) : Result := .next (abortOp s)

end Sys2Proof.Machine
end

