-- ==== Sys2Proof/Machine/Time.lean ====
section
/-! DEFINITION. The time related instructions WAIT, DELAY, SRT, TIM, NOOP (spec/43_time.md R115 to R124): first each
instruction over its operands, then one meaning per table row. -/

namespace Sys2Proof.Machine

/-- WAIT (R117): 0 and 1 both wait one tick. -/
def waitOp (n : Opnd) (s : State) : State :=
  s.withOperands [n] { s with pc := s.npc [n], mode := .waitTicks (max (u16 (s.val n)) 1) }

/-- DELAY (R119): waits until the given number of ticks since the previous delay, or rebases the delay time where that
has passed. -/
def delayOp (n : Opnd) (s : State) : State :=
  s.withOperands [n] (
    let t := s.delayTime + u16 (s.val n)
    if t ≤ s.nowTicks then
      { s with
        pc := s.npc [n]
        delayTime := match s.cfg.delayRebase with
          | .now => s.nowTicks
          | .target => t }
    else { s with pc := s.npc [n], mode := .waitDelay t })

/-- SRT (R120). -/
def srtOp (s : State) : State := { s with refTime := s.lobt, pc := s.npc [] }

/-- TIM (R121): waits until LOBT reaches the reference time plus the operand. -/
def timOp (n : Opnd) (s : State) : State :=
  s.withOperands [n] (
    let t := s.refTime + u16 (s.val n)
    if t ≤ s.lobt then { s with pc := s.npc [n] }
    else { s with pc := s.npc [n], mode := .waitTime t })

/-- NOOP (R122). -/
def noopOp (s : State) : State := { s with pc := s.npc [] }

/-- WAIT R, opcode B4 (R117). -/
def execWaitR (op1 : Reg) (s : State) : Result := .next (waitOp (.reg op1) s)

/-- WAIT I, opcode BC (R117). -/
def execWaitI (op1 : Word) (s : State) : Result := .next (waitOp (.imm op1) s)

/-- DELAY R, opcode B2 (R119). -/
def execDelayR (op1 : Reg) (s : State) : Result := .next (delayOp (.reg op1) s)

/-- DELAY I, opcode BA (R119). -/
def execDelayI (op1 : Word) (s : State) : Result := .next (delayOp (.imm op1) s)

/-- SRT, opcode E8 (R120). -/
def execSrt (s : State) : Result := .next (srtOp s)

/-- TIM R, opcode B0 (R121). -/
def execTimR (op1 : Reg) (s : State) : Result := .next (timOp (.reg op1) s)

/-- TIM I, opcode B8 (R121). -/
def execTimI (op1 : Word) (s : State) : Result := .next (timOp (.imm op1) s)

/-- NOOP, opcode FF (R122). -/
def execNoop (s : State) : Result := .next (noopOp s)

end Sys2Proof.Machine
end

