-- ==== Sys2Proof/Machine/Dispatch.lean ====
section
/-! DEFINITION. The dispatch of an instruction to its meaning, one arm per constructor. -/

namespace Sys2Proof.Machine

def exec (i : Instr) (s : State) : Host.Outcome State Fault Refusal :=
  match i with
  | .addRRR op1 op2 op3 => Sys2Proof.Machine.execAddRRR op1 op2 op3 s
  | .addRRI op1 op2 op3 => Sys2Proof.Machine.execAddRRI op1 op2 op3 s
  | .addRIR op1 op2 op3 => Sys2Proof.Machine.execAddRIR op1 op2 op3 s
  | .addRII op1 op2 op3 => Sys2Proof.Machine.execAddRII op1 op2 op3 s
  | .subRRR op1 op2 op3 => Sys2Proof.Machine.execSubRRR op1 op2 op3 s
  | .subRRI op1 op2 op3 => Sys2Proof.Machine.execSubRRI op1 op2 op3 s
  | .subRIR op1 op2 op3 => Sys2Proof.Machine.execSubRIR op1 op2 op3 s
  | .subRII op1 op2 op3 => Sys2Proof.Machine.execSubRII op1 op2 op3 s
  | .mulRRR op1 op2 op3 => Sys2Proof.Machine.execMulRRR op1 op2 op3 s
  | .mulRRI op1 op2 op3 => Sys2Proof.Machine.execMulRRI op1 op2 op3 s
  | .mulRIR op1 op2 op3 => Sys2Proof.Machine.execMulRIR op1 op2 op3 s
  | .mulRII op1 op2 op3 => Sys2Proof.Machine.execMulRII op1 op2 op3 s
  | .divRRR op1 op2 op3 => Sys2Proof.Machine.execDivRRR op1 op2 op3 s
  | .divRRI op1 op2 op3 => Sys2Proof.Machine.execDivRRI op1 op2 op3 s
  | .divRIR op1 op2 op3 => Sys2Proof.Machine.execDivRIR op1 op2 op3 s
  | .divRII op1 op2 op3 => Sys2Proof.Machine.execDivRII op1 op2 op3 s
  | .incR op1 => Sys2Proof.Machine.execIncR op1 s
  | .decR op1 => Sys2Proof.Machine.execDecR op1 s
  | .beqRRR op1 op2 op3 => Sys2Proof.Machine.execBeqRRR op1 op2 op3 s
  | .beqRRI op1 op2 op3 => Sys2Proof.Machine.execBeqRRI op1 op2 op3 s
  | .beqARR op1 op2 op3 => Sys2Proof.Machine.execBeqARR op1 op2 op3 s
  | .beqARI op1 op2 op3 => Sys2Proof.Machine.execBeqARI op1 op2 op3 s
  | .bneRRR op1 op2 op3 => Sys2Proof.Machine.execBneRRR op1 op2 op3 s
  | .bneRRI op1 op2 op3 => Sys2Proof.Machine.execBneRRI op1 op2 op3 s
  | .bneARR op1 op2 op3 => Sys2Proof.Machine.execBneARR op1 op2 op3 s
  | .bneARI op1 op2 op3 => Sys2Proof.Machine.execBneARI op1 op2 op3 s
  | .bltRRR op1 op2 op3 => Sys2Proof.Machine.execBltRRR op1 op2 op3 s
  | .bltRRI op1 op2 op3 => Sys2Proof.Machine.execBltRRI op1 op2 op3 s
  | .bltARR op1 op2 op3 => Sys2Proof.Machine.execBltARR op1 op2 op3 s
  | .bltARI op1 op2 op3 => Sys2Proof.Machine.execBltARI op1 op2 op3 s
  | .bleRRR op1 op2 op3 => Sys2Proof.Machine.execBleRRR op1 op2 op3 s
  | .bleRRI op1 op2 op3 => Sys2Proof.Machine.execBleRRI op1 op2 op3 s
  | .bleARR op1 op2 op3 => Sys2Proof.Machine.execBleARR op1 op2 op3 s
  | .bleARI op1 op2 op3 => Sys2Proof.Machine.execBleARI op1 op2 op3 s
  | .bgtRRR op1 op2 op3 => Sys2Proof.Machine.execBgtRRR op1 op2 op3 s
  | .bgtRRI op1 op2 op3 => Sys2Proof.Machine.execBgtRRI op1 op2 op3 s
  | .bgtARR op1 op2 op3 => Sys2Proof.Machine.execBgtARR op1 op2 op3 s
  | .bgtARI op1 op2 op3 => Sys2Proof.Machine.execBgtARI op1 op2 op3 s
  | .bgeRRR op1 op2 op3 => Sys2Proof.Machine.execBgeRRR op1 op2 op3 s
  | .bgeRRI op1 op2 op3 => Sys2Proof.Machine.execBgeRRI op1 op2 op3 s
  | .bgeARR op1 op2 op3 => Sys2Proof.Machine.execBgeARR op1 op2 op3 s
  | .bgeARI op1 op2 op3 => Sys2Proof.Machine.execBgeARI op1 op2 op3 s
  | .bnzRR op1 op2 => Sys2Proof.Machine.execBnzRR op1 op2 s
  | .bnzAR op1 op2 => Sys2Proof.Machine.execBnzAR op1 op2 s
  | .bzRR op1 op2 => Sys2Proof.Machine.execBzRR op1 op2 s
  | .bzAR op1 op2 => Sys2Proof.Machine.execBzAR op1 op2 s
  | .ubrR op1 => Sys2Proof.Machine.execUbrR op1 s
  | .ubrA op1 => Sys2Proof.Machine.execUbrA op1 s
  | .cllRR op1 op2 => Sys2Proof.Machine.execCllRR op1 op2 s
  | .cllRI op1 op2 => Sys2Proof.Machine.execCllRI op1 op2 s
  | .cllIR op1 op2 => Sys2Proof.Machine.execCllIR op1 op2 s
  | .cllII op1 op2 => Sys2Proof.Machine.execCllII op1 op2 s
  | .sidRRI op1 op2 op3 => Sys2Proof.Machine.execSidRRI op1 op2 op3 s
  | .sidRII op1 op2 op3 => Sys2Proof.Machine.execSidRII op1 op2 op3 s
  | .sidIRI op1 op2 op3 => Sys2Proof.Machine.execSidIRI op1 op2 op3 s
  | .sidIII op1 op2 op3 => Sys2Proof.Machine.execSidIII op1 op2 op3 s
  | .vidIII op1 op2 op3 => Sys2Proof.Machine.execVidIII op1 op2 op3 s
  | .ret => Sys2Proof.Machine.execRet s
  | .exitR op1 => Sys2Proof.Machine.execExitR op1 s
  | .exitI op1 => Sys2Proof.Machine.execExitI op1 s
  | .term => Sys2Proof.Machine.execTerm s
  | .abort => Sys2Proof.Machine.execAbort s
  | .waitR op1 => Sys2Proof.Machine.execWaitR op1 s
  | .waitI op1 => Sys2Proof.Machine.execWaitI op1 s
  | .delayR op1 => Sys2Proof.Machine.execDelayR op1 s
  | .delayI op1 => Sys2Proof.Machine.execDelayI op1 s
  | .srt => Sys2Proof.Machine.execSrt s
  | .timR op1 => Sys2Proof.Machine.execTimR op1 s
  | .timI op1 => Sys2Proof.Machine.execTimI op1 s
  | .noop => Sys2Proof.Machine.execNoop s
  | .setRR op1 op2 => Sys2Proof.Machine.execSetRR op1 op2 s
  | .setRI op1 op2 => Sys2Proof.Machine.execSetRI op1 op2 s
  | .setregsRR op1 op2 => Sys2Proof.Machine.execSetregsRR op1 op2 s
  | .setregsRI op1 op2 => Sys2Proof.Machine.execSetregsRI op1 op2 s
  | .setregsIR op1 op2 => Sys2Proof.Machine.execSetregsIR op1 op2 s
  | .setregsII op1 op2 => Sys2Proof.Machine.execSetregsII op1 op2 s
  | .ldaRR op1 op2 => Sys2Proof.Machine.execLdaRR op1 op2 s
  | .ldaRI op1 op2 => Sys2Proof.Machine.execLdaRI op1 op2 s
  | .ldrRR op1 op2 => Sys2Proof.Machine.execLdrRR op1 op2 s
  | .frameR op1 => Sys2Proof.Machine.execFrameR op1 s
  | .frameI op1 => Sys2Proof.Machine.execFrameI op1 s
  | .frmpfRRR op1 op2 op3 => Sys2Proof.Machine.execFrmpfRRR op1 op2 op3 s
  | .frmpfRRI op1 op2 op3 => Sys2Proof.Machine.execFrmpfRRI op1 op2 op3 s
  | .frmpfRIR op1 op2 op3 => Sys2Proof.Machine.execFrmpfRIR op1 op2 op3 s
  | .frmpfRII op1 op2 op3 => Sys2Proof.Machine.execFrmpfRII op1 op2 op3 s
  | .frmpfIRR op1 op2 op3 => Sys2Proof.Machine.execFrmpfIRR op1 op2 op3 s
  | .frmpfIRI op1 op2 op3 => Sys2Proof.Machine.execFrmpfIRI op1 op2 op3 s
  | .frmpfIIR op1 op2 op3 => Sys2Proof.Machine.execFrmpfIIR op1 op2 op3 s
  | .frmpfIII op1 op2 op3 => Sys2Proof.Machine.execFrmpfIII op1 op2 op3 s
  | .sampRR op1 op2 => Sys2Proof.Machine.execSampRR op1 op2 s
  | .sampRI op1 op2 => Sys2Proof.Machine.execSampRI op1 op2 s
  | .sampIR op1 op2 => Sys2Proof.Machine.execSampIR op1 op2 s
  | .sampII op1 op2 => Sys2Proof.Machine.execSampII op1 op2 s
  | .sttgRR op1 op2 => Sys2Proof.Machine.execSttgRR op1 op2 s
  | .sttgRI op1 op2 => Sys2Proof.Machine.execSttgRI op1 op2 s
  | .sttgIR op1 op2 => Sys2Proof.Machine.execSttgIR op1 op2 s
  | .sttgII op1 op2 => Sys2Proof.Machine.execSttgII op1 op2 s
  | .lockbuf => Sys2Proof.Machine.execLockbuf s
  | .resetaec => Sys2Proof.Machine.execResetaec s
  | .startave => Sys2Proof.Machine.execStartave s
  | .updimax => Sys2Proof.Machine.execUpdimax s

end Sys2Proof.Machine
end

