-- ==== Sys2Proof/Machine/Events.lean ====
section
/-! DEFINITION. The steps that are not the execution of an instruction: `StartPending` and the environment's events, each
with when it is enabled (spec/60_exceptions.md R170, R173, R174; spec/43_time.md R118, R123; spec/45_observing.md R142,
R146). -/

namespace Sys2Proof.Machine

/-- The modes in which a pending NewSequence may start: not the two deferring waits, not a stopped machine (R174). -/
def Mode.admitsStart : Mode → Bool
  | .idle | .running | .waitTicks _ | .waitDelay _ | .waitTime _ => true
  | .waitFrame | .waitSlew | .faulted _ | .refused _ => false

/-- `StartPending` is enabled (R174). -/
def State.startEnabled (s : State) : Bool := s.pending.isSome && s.mode.admitsStart

/-- `StartPending` (R174): drops the running sequences and enters the first sequence of the pending command. -/
def State.startCommand (s : State) (c : Command) : State :=
  { s with pending := none, callStack := [], seqList := c.rest }.startSeq c.first

/-- What the advance of the tick counter does to the mode and the delay time (R118). -/
def State.tick (s : State) : State :=
  let now := s.nowTicks + 1
  match s.mode with
  | .waitTicks 1 => { s with nowTicks := now, mode := .running }
  | .waitTicks (k + 2) => { s with nowTicks := now, mode := .waitTicks (k + 1) }
  | .waitDelay t =>
    if t ≤ now then { s with nowTicks := now, delayTime := now, mode := .running } else { s with nowTicks := now }
  | _ => { s with nowTicks := now }

/-- `Lobt(v)`: sets the on-board time and may end a TIM (R123). -/
def State.setLobt (s : State) (v : Nat) : State :=
  match s.mode with
  | .waitTime t => if t ≤ v then { s with lobt := v, mode := .running } else { s with lobt := v }
  | _ => { s with lobt := v }

/-- `EnvWrite`: the environment changes a cell it shares (R170, R41, R176 premise 2). -/
def State.envWrite (s : State) : EnvWrite → State
  | .aecCur i v => { s with aecCur := s.aecCur.set i v }
  | .flare f => { s with flare := f }
  | .nbf v => s.setBuiltin .nbf v
  | .cbf v => s.setBuiltin .cbf v
  | .imaxRow v => { s with imaxRow := v }
  | .imaxCol v => { s with imaxCol := v }
  | .clearStartAve => { s with startAve := false }
  | .camAmp v => { s with camAmp := v }
  | .wedgeRequest w => { s with wedgeRequest := w }

/-- The steps that are not `Exec`: the next state where the step is enabled, and none where it is not (R170, R174, R175). -/
def State.event (s : State) : Action → Option State
  | .exec => none
  | .startPending => if s.mode.admitsStart then s.pending.map s.startCommand else none
  | .tick => some s.tick
  | .lobt v => if s.lobt ≤ v then some (s.setLobt v) else none
  | .frameDone _ => if s.mode = .waitFrame then some { s with mode := .running } else none
  | .slewDone => if s.mode = .waitSlew then some { s with mode := .running } else none
  | .newSequence c => some { s with pending := some c }
  | .envWrite w => some (s.envWrite w)

end Sys2Proof.Machine
end

