-- ==== Sys2Proof/Machine/Fetch.lean ====
section
/-! DEFINITION. Fetching the instruction at `pc` (spec/30_encoding.md R54, R59 to R61; spec/60_exceptions.md R163 to
R165), and placing an instruction where the next step fetches it. -/

namespace Sys2Proof.Machine

/-- The bytes a fetch can read: from `pc`, up to the longest instruction and not past the end of sequence space
(R32, R165). -/
def State.fetchBytes (s : State) : List Byte := s.mem.bytes s.pc (min maxLength (s.cfg.seqSize - s.pc))

/-- Fetches and decodes the instruction at `pc` (R54). -/
def State.fetch (s : State) : Except Rejection Instr :=
  match decode s.cfg s.fetchBytes with
  | .ok (i, _) => .ok i
  | .error e => .error e

/-- The state after a fetch that gives no instruction: the fault or refusal of R164 (1) to (3). -/
def State.fetchFailed (s : State) : Rejection → State
  | .short off => s.raise (.fetchBounds (s.pc + off))
  | .illegalOpcode op => s.raise (.illegalOpcode op)
  | .opcode83 => s.refuse .opcode83
  | .ubrC2 => s.refuse .ubrC2

/-- The machine about to execute the instruction whose bytes these are: the bytes stored at `pc` (at 0 where they would
pass the end of sequence space), the mode running, no other step scheduled first. -/
def State.place (s : State) (bytes : List Byte) : State :=
  let a := if s.pc + bytes.length ≤ s.cfg.seqSize then s.pc else 0
  { s with mem := s.mem.writeAll a bytes, pc := a, mode := .running, schedule := [] }

end Sys2Proof.Machine
end

