-- ==== Sys2Proof/Machine/Actions.lean ====
section
/-! DEFINITION. One step of the relation (spec/60_exceptions.md R175): the execution of the instruction at `pc`, the step
an action names, and the step taken where none is scheduled. -/

namespace Sys2Proof.Machine

/-- `Exec`: fetches the instruction at `pc`, then follows its rule (R175). -/
def execStep (s : State) : Result :=
  match s.fetch with
  | .ok i => exec i s
  | .error e => .next (s.fetchFailed e)

/-- The step an action names, where it is enabled (R175). -/
def act (a : Action) (s : State) : Result :=
  match a with
  | .exec => if s.mode = .running then execStep s else .fault (.notEnabled .exec)
  | a =>
    match s.event a with
    | some t => .next t
    | none => .fault (.notEnabled a)

/-- The step taken where the schedule is empty: the sequencer goes on by itself where it can, executing when it runs and
starting a pending command otherwise (log entry 5). -/
def defaultStep (s : State) : Result :=
  if s.mode = .running then execStep s
  else if s.startEnabled then act .startPending s
  else .fault .stuck

/-- The first scheduled step, or the default one. -/
def scheduledStep (s : State) : Result :=
  match s.schedule with
  | a :: rest => act a { s with schedule := rest }
  | [] => defaultStep s

end Sys2Proof.Machine
end

