-- ==== Sys2Proof/Machine/Step.lean ====
section
/-! DEFINITION. One step of the machine, and a machine about to run a given instruction. -/

namespace Sys2Proof.Machine

/-- One step of the machine: the step its schedule names, or the sequencer's own (spec/60_exceptions.md R175). -/
def step (s : State) : Host.Outcome State Fault Refusal := scheduledStep s

/-- The state whose next step fetches and runs the instruction given as `nbits` bits of `w` (log entry 11). -/
def State.withFetchWord (s : State) (nbits w : Nat) : State := s.place (layoutWord nbits w)

end Sys2Proof.Machine
end

