-- ==== Sys2Proof/Safety.lean ====
section
/-! DEFINITION. What claims about runs speak of: the final states (spec/60_exceptions.md R177), the states that stopped
(R160, R162), the invariant every step keeps, and what a step leaves of the parts of the state that are fixed for a run
(R29, R176). -/

namespace Sys2Proof.Machine

/-- A final state: nothing runs and nothing is pending (R177). -/
def State.final (s : State) : Bool := decide (s.mode = .idle) && s.pending.isNone

/-- A mode that is never left: a fault or a refusal (R160, R162). -/
def Mode.stopped : Mode → Bool
  | .faulted _ | .refused _ => true
  | .idle | .running | .waitTicks _ | .waitDelay _ | .waitTime _ | .waitFrame | .waitSlew => false

/-- The built-in's register, if it is mapped onto one, exists (R15). -/
def builtinMapped (s : State) (b : Builtin) : Prop := ∀ n, builtinReg s.cfg.builtinReg b = some n → n < s.nregs

/-- What a waiting or idle mode promises: WAIT has at least one tick left, DELAY's and TIM's times are still to come
(R20), and an idle sequencer has neither callers nor a list (R99, R102, R103). -/
def Mode.invariant (s : State) : Mode → Prop
  | .idle => s.callStack = [] ∧ s.seqList = []
  | .waitTicks k => 1 ≤ k
  | .waitDelay t => s.nowTicks < t
  | .waitTime t => s.lobt < t
  | .running | .waitFrame | .waitSlew | .faulted _ | .refused _ => True

/-- The invariant of the machine: the parameters are in their ranges (R4) and there are at least 200 registers (R11);
sequence space is in canonical form; `pc` and every return address lie in sequence space or at its end (R13, R18); the
call stack holds at most `P_CALL_DEPTH` frames (R18); and the mode keeps its promise. -/
structure State.Inv (s : State) : Prop where
  /-- The parameters are in their ranges. -/
  cfg : s.cfg.wf = true
  /-- There are at least 200 registers. -/
  nregs : 200 ≤ s.nregs
  /-- A mapped built-in is a register that exists. -/
  builtin : ∀ b, builtinMapped s b
  /-- Sequence space is in canonical form. -/
  mem : s.mem.wf = true
  /-- `pc` is an address of sequence space or its end. -/
  pc : s.pc ≤ s.cfg.seqSize
  /-- The call stack is at most `P_CALL_DEPTH` deep. -/
  depth : s.callStack.length ≤ s.cfg.callDepth
  /-- So is every return address. -/
  ret : ∀ f ∈ s.callStack, f.ret ≤ s.cfg.seqSize
  /-- The mode keeps its promise. -/
  mode : s.mode.invariant s

/-- What no step of either agent changes: the parameters, the tables, sequence space, the number of registers, the default
exposure levels (R23, R29, R176). -/
structure SameFixed (s t : State) : Prop where
  /-- The parameters. -/
  cfg : t.cfg = s.cfg
  /-- The environment's tables. -/
  tables : t.tables = s.tables
  /-- Sequence space. -/
  mem : t.mem = s.mem
  /-- The number of registers. -/
  nregs : t.nregs = s.nregs
  /-- The default exposure levels. -/
  aecDef : t.aecDef = s.aecDef

end Sys2Proof.Machine
end

