-- ==== Sys2Proof/Certificates/Slice0/Obligations.lean ====
section
/-! DEFINITION. The statements for the provers. A statement of what an instruction does answers `exec` with the WHOLE next
state, written as an update of the state before: every register, cell, list and byte of memory that the update does not
name is unchanged, so the frame is part of the equation. -/

open Sys2Proof Sys2Proof.Machine

namespace Sys2Proof.Claims

/-- All these registers exist: their numbers are below `P_NREGS`. -/
def RegsExist (s : State) (rs : List Reg) : Prop := ∀ r ∈ rs, r.toNat < s.nregs

/-- The value of a register named by a register byte. -/
def rv (s : State) (r : Reg) : Word := s.reg r.toNat

/-- The register file after a write of the register named by a register byte. -/
def wr (s : State) (r : Reg) (v : Word) : List Word := s.regs.set r.toNat v

/-- The state after a fault is raised: only the mode changes. -/
def faulted (s : State) (c : Cause) : State := { s with mode := .faulted c }

/-- The instruction is encoded by this opcode byte in this many bytes: under every configuration in which it has an
encoding, its bytes decode to it and nothing else whatever follows them, and with fewer bytes the decoder reports the
offset of the read that fails. -/
def EncodedAs (i : Instr) (op : Byte) (len : Nat) : Prop :=
  ∀ c : Config, c.wf = true → i.wellFormed c = true →
    (encode c i).head? = some op ∧ (encode c i).length = len ∧
    (∀ rest, decode c (encode c i ++ rest) = .ok (i, rest)) ∧
    ∀ k < len, ∃ off ≤ k, decode c ((encode c i).take k) = .error (.short off)

/-- The register numbers in an operand list, in operand order. -/
def regNumbers : List Opnd → List Nat
  | [] => []
  | .reg r :: l => r.toNat :: regNumbers l
  | .imm _ :: l => regNumbers l
  | .addr _ :: l => regNumbers l

/-- The instruction raises `RegIndex` with the first of its register numbers that is not below `P_NREGS`. -/
def RaisesRegIndex (i : Instr) : Prop :=
  ∀ (s : State) (n : Nat), (regNumbers i.operands).find? (fun m => decide (s.nregs ≤ m)) = some n →
    exec i s = .next (faulted s (.regIndex n))

/-- The instruction is a conditional branch to `t`, `len` bytes long, with this condition. -/
def BranchesTo (i : Instr) (s : State) (t : Nat) (cond : Bool) (len : Nat) : Prop :=
  (t < s.cfg.seqSize → exec i s = .next { s with pc := if cond = true then t else s.pc + len }) ∧
  (s.cfg.seqSize ≤ t → s.cfg.boundsCheck = .always ∨ cond = true →
    exec i s = .next (faulted s (.branchBounds t))) ∧
  (s.cfg.seqSize ≤ t → s.cfg.boundsCheck = .taken → cond = false → exec i s = .next { s with pc := s.pc + len })

/-- The order of two words under the reading of `P_SIGNED`. -/
def less (s : State) (a b : Word) : Bool :=
  if s.cfg.signed = true then decide (a.toInt < b.toInt) else decide (a.toNat < b.toNat)

/-- The next-state map of an outcome. -/
def mapNext (f : State → State) : Result → Result
  | .next s => .next (f s)
  | .fault r => .fault r
  | .refused r => .refused r

/-- The instruction is a SID. -/
def isSid : Instr → Bool
  | .sidRRI .. | .sidRII .. | .sidIRI .. | .sidIII .. => true
  | _ => false

/-- The instruction is a TIM. -/
def isTim : Instr → Bool
  | .timR .. | .timI .. => true
  | _ => false

/-- The register a built-in is mapped onto, as a list. -/
def mappedReg (s : State) (b : Builtin) : List Nat := (builtinReg s.cfg.builtinReg b).toList

/-- The registers an instruction may write: its destination, register 199 for MUL, the pointer for LDR, the run for
SETREGS, and the registers of the built-ins EXIT and LOCKBUF write where they are mapped. -/
def writtenRegs (s : State) : Instr → List Nat
  | .addRRR d .. | .addRRI d .. | .addRIR d .. | .addRII d .. => [d.toNat]
  | .subRRR d .. | .subRRI d .. | .subRIR d .. | .subRII d .. => [d.toNat]
  | .mulRRR d .. | .mulRRI d .. | .mulRIR d .. | .mulRII d .. => [d.toNat, 199]
  | .divRRR d .. | .divRRI d .. | .divRIR d .. | .divRII d .. => [d.toNat]
  | .incR d | .decR d => [d.toNat]
  | .setRR d _ | .setRI d _ => [d.toNat]
  | .setregsRR d n => List.range' (rv s d).toNat (rv s n).toNat
  | .setregsRI d n => List.range' (rv s d).toNat n.toNat
  | .setregsIR d n => List.range' d.toNat (rv s n).toNat
  | .setregsII d n => List.range' d.toNat n.toNat
  | .ldaRR d _ | .ldaRI d _ => [d.toNat]
  | .ldrRR d p => [d.toNat, p.toNat]
  | .exitR _ | .exitI _ => mappedReg s .rtn
  | .lockbuf => mappedReg s .nbf ++ mappedReg s .cbf
  | .beqRRR .. | .beqRRI .. | .beqARR .. | .beqARI .. | .bneRRR .. | .bneRRI .. | .bneARR .. | .bneARI ..
  | .bltRRR .. | .bltRRI .. | .bltARR .. | .bltARI .. | .bleRRR .. | .bleRRI .. | .bleARR .. | .bleARI ..
  | .bgtRRR .. | .bgtRRI .. | .bgtARR .. | .bgtARI .. | .bgeRRR .. | .bgeRRI .. | .bgeARR .. | .bgeARI ..
  | .bnzRR .. | .bnzAR .. | .bzRR .. | .bzAR .. | .ubrR .. | .ubrA .. | .cllRR .. | .cllRI .. | .cllIR ..
  | .cllII .. | .sidRRI .. | .sidRII .. | .sidIRI .. | .sidIII .. | .vidIII .. | .ret | .term | .abort | .waitR ..
  | .waitI .. | .delayR .. | .delayI .. | .srt | .timR .. | .timI .. | .noop | .frameR .. | .frameI ..
  | .frmpfRRR .. | .frmpfRRI .. | .frmpfRIR .. | .frmpfRII .. | .frmpfIRR .. | .frmpfIRI .. | .frmpfIIR ..
  | .frmpfIII .. | .sampRR .. | .sampRI .. | .sampIR .. | .sampII .. | .sttgRR .. | .sttgRI .. | .sttgIR ..
  | .sttgII .. | .resetaec | .startave | .updimax => []

/-- RET and EXIT end the sequence from the state `s`, EXIT having first made it `s0`. -/
def EndsNormally (i : Instr) (s s0 : State) : Prop :=
  (∀ f fs, s.callStack = f :: fs →
    exec i s = .next { s0 with callStack := fs, pc := f.ret, delayTime := f.delay, mode := .running }) ∧
  (s.callStack = [] → s.seqList = [] → exec i s = .next { s0 with mode := .idle }) ∧
  (∀ id ids a, s.callStack = [] → s.seqList = id :: ids → s.findSeq id = some a →
    exec i s = .next { s0 with seqList := ids, pc := a, delayTime := s.nowTicks, mode := .running }) ∧
  (∀ id ids, s.callStack = [] → s.seqList = id :: ids → s.findSeq id = none →
    exec i s = .next { s0 with seqList := ids, mode := .faulted (.seqNotFound id) })

/-- CLL with this ID, `len` bytes long, from the state `s`. -/
def Calls (i : Instr) (s : State) (id : SeqId) (len : Nat) : Prop :=
  (∀ a, s.callStack.length ≠ s.cfg.callDepth → s.findSeq id = some a →
    exec i s = .next { s with
      callStack := ⟨s.pc + len, s.delayTime⟩ :: s.callStack
      delayTime := match s.cfg.delayOnCall with
        | .now => s.nowTicks
        | .keep => s.delayTime
      pc := a }) ∧
  (s.callStack.length = s.cfg.callDepth → exec i s = .next (faulted s .callDepth)) ∧
  (s.callStack.length ≠ s.cfg.callDepth → s.findSeq id = none → exec i s = .next (faulted s (.seqNotFound id)))

/-- SETREGS with this first register and count, its value words at `h`, from the state `s`. -/
def SetsRun (i : Instr) (s : State) (first count h : Nat) : Prop :=
  (count = 0 ∨ first + count ≤ s.nregs → h + 2 * count ≤ s.cfg.seqSize →
    ∃ regs : List Word, exec i s = .next { s with regs := regs, pc := h + 2 * count } ∧
      regs.length = s.regs.length ∧
      ∀ n, regs.getD n 0 = if first ≤ n ∧ n < first + count then s.wordAt (h + 2 * (n - first)) else s.reg n) ∧
  (0 < count → s.nregs < first + count → exec i s = .next (faulted s (.regIndex s.nregs))) ∧
  (count = 0 ∨ first + count ≤ s.nregs → s.cfg.seqSize < h + 2 * count →
    exec i s = .next (faulted s (.fetchBounds h)))

/-- FRAME with this FID, `len` bytes long, from the state `s`. -/
def TakesFrame (i : Instr) (s : State) (fid : Word) (len : Nat) : Prop :=
  (BitVec.ofNat 13 (fid.toNat / 8) ∈ s.tables.fdbKeys →
    exec i s = .next { s with trace := s.trace ++ [.picture fid none none], pc := s.pc + len, mode := .waitFrame }) ∧
  (BitVec.ofNat 13 (fid.toNat / 8) ∉ s.tables.fdbKeys →
    exec i s = .next (faulted s (.tableLookup .frame fid.toNat)))

/-- FRMPF with these operand values, `len` bytes long, from the state `s`. -/
def TakesFrmpf (i : Instr) (s : State) (fid pzto fo : Word) (len : Nat) : Prop :=
  (BitVec.ofNat 13 (fid.toNat / 8) ∈ s.tables.fdbKeys → pzto = 0 ∨ pzto ∈ s.tables.pztIndices →
    exec i s = .next { s with
      trace := s.trace ++ [.picture fid (some pzto) (some fo.toInt)]
      pc := s.pc + len
      mode := .waitFrame }) ∧
  (BitVec.ofNat 13 (fid.toNat / 8) ∉ s.tables.fdbKeys →
    exec i s = .next (faulted s (.tableLookup .frame fid.toNat))) ∧
  (BitVec.ofNat 13 (fid.toNat / 8) ∈ s.tables.fdbKeys → pzto ≠ 0 → pzto ∉ s.tables.pztIndices →
    exec i s = .next (faulted s (.tableLookup .pzt pzto.toNat)))

/-- The state SAMP leaves, `len` bytes long. -/
def sampled (s : State) (a o : Word) (len : Nat) : State :=
  { s with
    camAmp := if a = 0 then s.camAmp else a
    camAdcOffset := if o = 0 then s.camAdcOffset else o
    trace := s.trace ++ [.samp a o]
    pc := s.pc + len }

/-- STTG with this target ID, `len` bytes long, from the state `s`. -/
def SetsTarget (i : Instr) (s : State) (id : SeqId) (len : Nat) : Prop :=
  (∀ pre post w, s.tables.pct = pre ++ (BitVec.ofNat 24 (id.toNat / 256), w) :: post →
    (∀ e ∈ post, e.1 ≠ BitVec.ofNat 24 (id.toNat / 256)) →
    exec i s = .next { s with
      wedgeRequest := w
      trace := s.trace ++ [.target id]
      pc := s.pc + len
      mode := .waitSlew }) ∧
  ((∀ e ∈ s.tables.pct, e.1 ≠ BitVec.ofNat 24 (id.toNat / 256)) →
    exec i s = .next (faulted s (.tableLookup .pct id.toNat)))

/-- The state SID leaves, `len` bytes long. -/
def telemetered (s : State) (id : SeqId) (len : Nat) : State :=
  { s with hkSeqId := id, trace := s.trace ++ [.telemetry id], pc := s.pc + len }

/-- DELAY with this count, `len` bytes long, from the state `s`. -/
def Delays (i : Instr) (s : State) (n len : Nat) : Prop :=
  (s.nowTicks < s.delayTime + n →
    exec i s = .next { s with pc := s.pc + len, mode := .waitDelay (s.delayTime + n) }) ∧
  (s.delayTime + n ≤ s.nowTicks → s.cfg.delayRebase = .now →
    exec i s = .next { s with pc := s.pc + len, delayTime := s.nowTicks }) ∧
  (s.delayTime + n ≤ s.nowTicks → s.cfg.delayRebase = .target →
    exec i s = .next { s with pc := s.pc + len, delayTime := s.delayTime + n })

/-- TIM with this count, `len` bytes long, from the state `s`. -/
def WaitsUntil (i : Instr) (s : State) (n len : Nat) : Prop :=
  (s.lobt < s.refTime + n → exec i s = .next { s with pc := s.pc + len, mode := .waitTime (s.refTime + n) }) ∧
  (s.refTime + n ≤ s.lobt → exec i s = .next { s with pc := s.pc + len })

/-- The state WAIT leaves: 0 and 1 both wait one tick. -/
def waiting (s : State) (n len : Nat) : State :=
  { s with pc := s.pc + len, mode := .waitTicks (if n = 0 then 1 else n) }

/-- LDA of this address, `len` bytes long, from the state `s`. -/
def LoadsCc (i : Instr) (s : State) (d : Reg) (a : Word) (len : Nat) : Prop :=
  (a ∉ s.cfg.ccExcluded →
    exec i s = .next { s with
      regs := wr s d (Config.ccWord s.draws s.cfg.ccAddrUnit a)
      draws := s.draws + 1
      pc := s.pc + len }) ∧
  (a ∈ s.cfg.ccExcluded → exec i s = .next (faulted s (.ccAddress a)))

/-- MUL of these values to register `d`, `len` bytes long, from the state `s`. -/
def Multiplies (i : Instr) (s : State) (d : Reg) (a b : Word) (len : Nat) : Prop :=
  (∀ p : BitVec 32, d.toNat ≠ 199 →
    p = (if s.cfg.signed = true then BitVec.ofInt 32 (a.toInt * b.toInt) else BitVec.ofNat 32 (a.toNat * b.toNat)) →
    exec i s = .next { s with
      regs := (wr s d (BitVec.ofNat 16 (p.toNat % 65536))).set 199 (BitVec.ofNat 16 (p.toNat / 65536))
      pc := s.pc + len }) ∧
  (d.toNat = 199 → exec i s = .next { s with mode := .refused .mulDestIsR199 })

/-- DIV of these values to register `d`, `len` bytes long, from the state `s`. -/
def Divides (i : Instr) (s : State) (d : Reg) (a b : Word) (len : Nat) : Prop :=
  (s.cfg.signed = true → b ≠ 0 → ¬(a = 0x8000 ∧ b = 0xFFFF) →
    exec i s = .next { s with regs := wr s d (BitVec.ofInt 16 (a.toInt.tdiv b.toInt)), pc := s.pc + len }) ∧
  (s.cfg.signed = false → b ≠ 0 →
    exec i s = .next { s with regs := wr s d (BitVec.ofNat 16 (a.toNat / b.toNat)), pc := s.pc + len }) ∧
  (b = 0 → exec i s = .next (faulted s .divideByZero)) ∧
  (s.cfg.signed = true → a = 0x8000 → b = 0xFFFF → exec i s = .next (faulted s .divideOverflow))

/-- The `k`-th address of the chain of sequence headers (OP3 followed `k` times from `P_SEQ_LIST_HEAD`). -/
def chainAt (s : State) : Nat → Nat
  | 0 => s.cfg.seqListHead.toNat
  | k + 1 => (s.wordAt (chainAt s k + 5)).toNat

/-- A header of a findable sequence stands at the address: 7 bytes in bounds, the opcode of VID or of SID AC. -/
def HeaderAt (s : State) (a : Nat) : Prop :=
  a + 7 ≤ s.cfg.seqSize ∧ (s.mem.read a = 0xE1 ∨ s.mem.read a = 0xAC)

/-- The ID a header carries. -/
def idAt (s : State) (a : Nat) : SeqId := s.wordAt (a + 3) ++ s.wordAt (a + 1)

/-- The bytes a fetch sees: from `pc`, at most 7, not past the end of sequence space. -/
def fetchWindow (s : State) : List Byte := s.mem.bytes s.pc (min 7 (s.cfg.seqSize - s.pc))

/-- The state a sequence start from the state `s` leaves. -/
def started (s : State) (c : Command) (a : Nat) : State :=
  { s with
    pending := none
    callStack := []
    seqList := c.rest
    pc := a
    delayTime := s.nowTicks
    mode := .running }

/-- The modes in which a pending command may start: idle, running and the three timed waits, and no other of the nine
(the spec's decision D18). -/
def MayStart : Mode → Prop
  | .idle => True
  | .running => True
  | .waitTicks _ => True
  | .waitDelay _ => True
  | .waitTime _ => True
  | .waitFrame => False
  | .waitSlew => False
  | .faulted _ => False
  | .refused _ => False

/-- The five waiting modes. -/
def Waiting : Mode → Prop
  | .waitTicks _ => True
  | .waitDelay _ => True
  | .waitTime _ => True
  | .waitFrame => True
  | .waitSlew => True
  | .idle => False
  | .running => False
  | .faulted _ => False
  | .refused _ => False

/-- The next step can be the start of a pending command: there is one, the mode lets it start, and the schedule names the
start or is empty (log entry 5). -/
def StartIsNext (s : State) : Prop :=
  s.pending ≠ none ∧ MayStart s.mode ∧ (s.schedule = [] ∨ ∃ l, s.schedule = .startPending :: l)

/-- The state a start from the state `s` leaves where no header carries the command's first ID. -/
def startFailed (s : State) (c : Command) : State :=
  { s with pending := none, callStack := [], seqList := c.rest, mode := .faulted (.seqNotFound c.first) }

/-- Executing at the pc leaves this mode and changes nothing else, whether the schedule is empty or names the execution
(log entry 5). -/
def ExecutionLeavesMode (s : State) (m : Mode) : Prop :=
  (s.schedule = [] → step s = .next { s with mode := m }) ∧
  ∀ l, s.schedule = .exec :: l → step s = .next { s with mode := m, schedule := l }

/-- The mode a fetch that gives no instruction leaves. -/
def modeOfRejection (pc : Nat) : Rejection → Mode
  | .short off => .faulted (.fetchBounds (pc + off))
  | .illegalOpcode op => .faulted (.illegalOpcode op)
  | .opcode83 => .refused .opcode83
  | .ubrC2 => .refused .ubrC2

/-- The step is the environment's write of a word to a built-in: to the register it is mapped onto, or else to the cell
that `cell` writes. -/
def WritesBuiltin (s : State) (l : List Action) (mapped : Option Nat) (cell : State → State) (v : Word) : Prop :=
  (mapped = none → step s = .next (cell { s with schedule := l })) ∧
  ∀ n, mapped = some n → step s = .next { s with regs := s.regs.set n v, schedule := l }

/-- This many steps in a row, as far as they have a next state. -/
def stepsFrom : Nat → State → Result
  | 0, s => .next s
  | n + 1, s =>
    match step s with
    | .next t => stepsFrom n t
    | .fault f => .fault f
    | .refused r => .refused r

end Sys2Proof.Claims

open Sys2Proof.Claims

/-! ### Arithmetic -/

/-- ADD, all four forms: the sum modulo 65536 to the destination (the spec's decision D5: it wraps, nothing records a
carry), both sources read before the write. -/
def Obligations.AddWritesWrappedSum : Prop :=
  ∀ (s : State) (d a b : Reg) (u v : Word), RegsExist s [d] →
    (RegsExist s [a, b] → exec (.addRRR d a b) s =
      .next { s with regs := wr s d (BitVec.ofNat 16 ((rv s a).toNat + (rv s b).toNat)), pc := s.pc + 4 }) ∧
    (RegsExist s [a] → exec (.addRRI d a v) s =
      .next { s with regs := wr s d (BitVec.ofNat 16 ((rv s a).toNat + v.toNat)), pc := s.pc + 5 }) ∧
    (RegsExist s [b] → exec (.addRIR d u b) s =
      .next { s with regs := wr s d (BitVec.ofNat 16 (u.toNat + (rv s b).toNat)), pc := s.pc + 5 }) ∧
    exec (.addRII d u v) s = .next { s with regs := wr s d (BitVec.ofNat 16 (u.toNat + v.toNat)), pc := s.pc + 6 }

/-- SUB, all four forms: the difference modulo 65536, OP2 the minuend (the spec's decision D5). -/
def Obligations.SubWritesWrappedDifference : Prop :=
  ∀ (s : State) (d a b : Reg) (u v : Word), RegsExist s [d] →
    (RegsExist s [a, b] → exec (.subRRR d a b) s =
      .next { s with regs := wr s d (BitVec.ofNat 16 ((rv s a).toNat + 65536 - (rv s b).toNat)), pc := s.pc + 4 }) ∧
    (RegsExist s [a] → exec (.subRRI d a v) s =
      .next { s with regs := wr s d (BitVec.ofNat 16 ((rv s a).toNat + 65536 - v.toNat)), pc := s.pc + 5 }) ∧
    (RegsExist s [b] → exec (.subRIR d u b) s =
      .next { s with regs := wr s d (BitVec.ofNat 16 (u.toNat + 65536 - (rv s b).toNat)), pc := s.pc + 5 }) ∧
    exec (.subRII d u v) s =
      .next { s with regs := wr s d (BitVec.ofNat 16 (u.toNat + 65536 - v.toNat)), pc := s.pc + 6 }

/-- MUL, all four forms: the lower half of the product to the destination, the upper half to register 199, under either
reading; refused where the destination is register 199 (the spec's decisions D4, D7). -/
def Obligations.MulSplitsProduct : Prop :=
  ∀ (s : State) (d a b : Reg) (u v : Word), RegsExist s [d] →
    (RegsExist s [a, b] → Multiplies (.mulRRR d a b) s d (rv s a) (rv s b) 4) ∧
    (RegsExist s [a] → Multiplies (.mulRRI d a v) s d (rv s a) v 5) ∧
    (RegsExist s [b] → Multiplies (.mulRIR d u b) s d u (rv s b) 5) ∧
    Multiplies (.mulRII d u v) s d u v 6

/-- DIV, all four forms: the quotient rounded toward zero, no remainder kept; a zero divisor and -32768 / -1 are faults
(the spec's decisions D4, D6). -/
def Obligations.DivRoundsTowardZeroOrFaults : Prop :=
  ∀ (s : State) (d a b : Reg) (u v : Word), RegsExist s [d] →
    (RegsExist s [a, b] → Divides (.divRRR d a b) s d (rv s a) (rv s b) 4) ∧
    (RegsExist s [a] → Divides (.divRRI d a v) s d (rv s a) v 5) ∧
    (RegsExist s [b] → Divides (.divRIR d u b) s d u (rv s b) 5) ∧
    Divides (.divRII d u v) s d u v 6

/-- INC and DEC: one more and one less modulo 65536 (the spec's decision D5). -/
def Obligations.IncDecWrap : Prop :=
  ∀ (s : State) (d : Reg), RegsExist s [d] →
    exec (.incR d) s = .next { s with regs := wr s d (BitVec.ofNat 16 ((rv s d).toNat + 1)), pc := s.pc + 2 } ∧
    exec (.decR d) s = .next { s with regs := wr s d (BitVec.ofNat 16 ((rv s d).toNat + 65535)), pc := s.pc + 2 }

/-! ### Branches -/

/-- BEQ and BNE, all forms: the target's bounds, then equality of the two patterns (the bound check is the spec's decision
D8). -/
def Obligations.EqualityBranches : Prop :=
  ∀ (s : State) (r a b : Reg) (t v : Word), RegsExist s [a] →
    (RegsExist s [r, b] →
      BranchesTo (.beqRRR r a b) s (rv s r).toNat (decide (rv s a = rv s b)) 4 ∧
      BranchesTo (.bneRRR r a b) s (rv s r).toNat (decide (rv s a ≠ rv s b)) 4) ∧
    (RegsExist s [r] →
      BranchesTo (.beqRRI r a v) s (rv s r).toNat (decide (rv s a = v)) 5 ∧
      BranchesTo (.bneRRI r a v) s (rv s r).toNat (decide (rv s a ≠ v)) 5) ∧
    (RegsExist s [b] →
      BranchesTo (.beqARR t a b) s t.toNat (decide (rv s a = rv s b)) 5 ∧
      BranchesTo (.bneARR t a b) s t.toNat (decide (rv s a ≠ rv s b)) 5) ∧
    BranchesTo (.beqARI t a v) s t.toNat (decide (rv s a = v)) 6 ∧
    BranchesTo (.bneARI t a v) s t.toNat (decide (rv s a ≠ v)) 6

/-- BLT, BLE, BGT, BGE, all forms: the target's bounds, then the order of the two values under the reading of `P_SIGNED`
(the spec's decisions D4, D8). -/
def Obligations.OrderBranches : Prop :=
  ∀ (s : State) (r a b : Reg) (t v : Word), RegsExist s [a] →
    (RegsExist s [r, b] →
      BranchesTo (.bltRRR r a b) s (rv s r).toNat (less s (rv s a) (rv s b)) 4 ∧
      BranchesTo (.bleRRR r a b) s (rv s r).toNat (!less s (rv s b) (rv s a)) 4 ∧
      BranchesTo (.bgtRRR r a b) s (rv s r).toNat (less s (rv s b) (rv s a)) 4 ∧
      BranchesTo (.bgeRRR r a b) s (rv s r).toNat (!less s (rv s a) (rv s b)) 4) ∧
    (RegsExist s [r] →
      BranchesTo (.bltRRI r a v) s (rv s r).toNat (less s (rv s a) v) 5 ∧
      BranchesTo (.bleRRI r a v) s (rv s r).toNat (!less s v (rv s a)) 5 ∧
      BranchesTo (.bgtRRI r a v) s (rv s r).toNat (less s v (rv s a)) 5 ∧
      BranchesTo (.bgeRRI r a v) s (rv s r).toNat (!less s (rv s a) v) 5) ∧
    (RegsExist s [b] →
      BranchesTo (.bltARR t a b) s t.toNat (less s (rv s a) (rv s b)) 5 ∧
      BranchesTo (.bleARR t a b) s t.toNat (!less s (rv s b) (rv s a)) 5 ∧
      BranchesTo (.bgtARR t a b) s t.toNat (less s (rv s b) (rv s a)) 5 ∧
      BranchesTo (.bgeARR t a b) s t.toNat (!less s (rv s a) (rv s b)) 5) ∧
    BranchesTo (.bltARI t a v) s t.toNat (less s (rv s a) v) 6 ∧
    BranchesTo (.bleARI t a v) s t.toNat (!less s v (rv s a)) 6 ∧
    BranchesTo (.bgtARI t a v) s t.toNat (less s v (rv s a)) 6 ∧
    BranchesTo (.bgeARI t a v) s t.toNat (!less s (rv s a) v) 6

/-- BNZ and BZ, both forms (the bound check is the spec's decision D8, opcode 86 its decision D12). -/
def Obligations.ZeroTestBranches : Prop :=
  ∀ (s : State) (r a : Reg) (t : Word), RegsExist s [a] →
    (RegsExist s [r] →
      BranchesTo (.bnzRR r a) s (rv s r).toNat (decide (rv s a ≠ 0)) 3 ∧
      BranchesTo (.bzRR r a) s (rv s r).toNat (decide (rv s a = 0)) 3) ∧
    BranchesTo (.bnzAR t a) s t.toNat (decide (rv s a ≠ 0)) 4 ∧
    BranchesTo (.bzAR t a) s t.toNat (decide (rv s a = 0)) 4

/-- UBR, both forms: to the target where it lies in sequence space, a fault otherwise under either setting of
`P_BOUNDS_CHECK` (the spec's decisions D8, D11). -/
def Obligations.UbrGoesToCheckedTarget : Prop :=
  ∀ (s : State) (r : Reg) (t : Word),
    (RegsExist s [r] →
      ((rv s r).toNat < s.cfg.seqSize → exec (.ubrR r) s = .next { s with pc := (rv s r).toNat }) ∧
      (s.cfg.seqSize ≤ (rv s r).toNat → exec (.ubrR r) s = .next (faulted s (.branchBounds (rv s r).toNat)))) ∧
    (t.toNat < s.cfg.seqSize → exec (.ubrA t) s = .next { s with pc := t.toNat }) ∧
    (s.cfg.seqSize ≤ t.toNat → exec (.ubrA t) s = .next (faulted s (.branchBounds t.toNat)))

/-! ### Sequence control -/

/-- CLL, all four forms: a full stack and an unknown ID are faults; otherwise the return address and the delay time are
pushed and the called header comes next (the spec's decisions D15, D16, D20). -/
def Obligations.CllPushesAndEnters : Prop :=
  ∀ (s : State) (a b : Reg) (u v : Word),
    (RegsExist s [a, b] → Calls (.cllRR a b) s (rv s b ++ rv s a) 3) ∧
    (RegsExist s [a] → Calls (.cllRI a v) s (v ++ rv s a) 4) ∧
    (RegsExist s [b] → Calls (.cllIR u b) s (rv s b ++ u) 4) ∧
    Calls (.cllII u v) s (v ++ u) 5

/-- SID, all four forms: the ID to housekeeping telemetry, OP3 stepped over (the order of the ID's words is the spec's
decision D14). -/
def Obligations.SidPlacesIdInTelemetry : Prop :=
  ∀ (s : State) (a b : Reg) (u v w : Word),
    (RegsExist s [a, b] → exec (.sidRRI a b w) s = .next (telemetered s (rv s b ++ rv s a) 5)) ∧
    (RegsExist s [a] → exec (.sidRII a v w) s = .next (telemetered s (v ++ rv s a) 6)) ∧
    (RegsExist s [b] → exec (.sidIRI u b w) s = .next (telemetered s (rv s b ++ u) 6)) ∧
    exec (.sidIII u v w) s = .next (telemetered s (v ++ u) 7)

/-- VID: its encoding, and nothing but the advance of the pc. -/
def Obligations.VidOnlyAdvancesPc : Prop :=
  ∀ (u v w : Word), EncodedAs (.vidIII u v w) 0xE1 7 ∧
    ∀ s : State, exec (.vidIII u v w) s = .next { s with pc := s.pc + 7 }

/-- RET ends the sequence normally (the spec's decision D17). -/
def Obligations.RetEndsNormally : Prop := ∀ s : State, EndsNormally .ret s s

/-- EXIT, both forms: sets `$RTN`, then ends the sequence as RET does (the spec's decisions D17, D25). -/
def Obligations.ExitSetsRtnAndEndsNormally : Prop :=
  ∀ (s : State) (r : Reg) (v : Word),
    (s.cfg.builtinReg.rtn = none →
      (RegsExist s [r] → EndsNormally (.exitR r) s { s with rtn := rv s r }) ∧
      EndsNormally (.exitI v) s { s with rtn := v }) ∧
    ∀ n, s.cfg.builtinReg.rtn = some n →
      (RegsExist s [r] → EndsNormally (.exitR r) s { s with regs := s.regs.set n (rv s r) }) ∧
      EndsNormally (.exitI v) s { s with regs := s.regs.set n v }

/-- TERM drops the call stack and the list and keeps the pending command; ABORT drops that too (the spec's decision D17
and its conflict C8). -/
def Obligations.TermAndAbortGoIdle : Prop :=
  ∀ s : State,
    exec .term s = .next { s with callStack := [], seqList := [], mode := .idle } ∧
    exec .abort s = .next { s with callStack := [], seqList := [], pending := none, mode := .idle }

/-! ### Time -/

/-- WAIT, both forms, with their encoding: 0 and 1 both wait one tick; a register that does not exist is a fault (the spec's
decisions D2, D19, D28). -/
def Obligations.WaitParksForTicks : Prop :=
  ∀ (r : Reg) (v : Word), EncodedAs (.waitR r) 0xB4 2 ∧ EncodedAs (.waitI v) 0xBC 3 ∧ RaisesRegIndex (.waitR r) ∧
    ∀ s : State, (RegsExist s [r] → exec (.waitR r) s = .next (waiting s (rv s r).toNat 2)) ∧
      exec (.waitI v) s = .next (waiting s v.toNat 3)

/-- DELAY, both forms: waits until the count of ticks since the previous delay, or rebases (the spec's decisions D19,
D20). -/
def Obligations.DelayWaitsOrRebases : Prop :=
  ∀ (s : State) (r : Reg) (v : Word),
    (RegsExist s [r] → Delays (.delayR r) s (rv s r).toNat 2) ∧ Delays (.delayI v) s v.toNat 3

/-- SRT, with its encoding: the reference time is the present LOBT. -/
def Obligations.SrtSetsReferenceTime : Prop :=
  EncodedAs .srt 0xE8 1 ∧ ∀ s : State, exec .srt s = .next { s with refTime := s.lobt, pc := s.pc + 1 }

/-- TIM, both forms, with their encoding: waits until LOBT is at least the reference time plus the operand; a register that
does not exist is a fault (the spec's decisions D2, D19, D21, D28). -/
def Obligations.TimWaitsForLobt : Prop :=
  ∀ (r : Reg) (v : Word), EncodedAs (.timR r) 0xB0 2 ∧ EncodedAs (.timI v) 0xB8 3 ∧ RaisesRegIndex (.timR r) ∧
    ∀ s : State, (RegsExist s [r] → WaitsUntil (.timR r) s (rv s r).toNat 2) ∧ WaitsUntil (.timI v) s v.toNat 3

/-- NOOP, with its encoding: the pc and nothing else. -/
def Obligations.NoopOnlyAdvancesPc : Prop :=
  EncodedAs .noop 0xFF 1 ∧ ∀ s : State, exec .noop s = .next { s with pc := s.pc + 1 }

/-! ### Assignment -/

/-- SET, both forms, with their encoding: the whole word is copied; a register that does not exist is a fault (the spec's
decisions D2, D28: log entries 8, 9, 17). -/
def Obligations.SetCopiesWord : Prop :=
  ∀ (d a : Reg) (v : Word), EncodedAs (.setRR d a) 0x80 3 ∧ EncodedAs (.setRI d v) 0x84 4 ∧
    RaisesRegIndex (.setRR d a) ∧ RaisesRegIndex (.setRI d v) ∧
    ∀ s : State, RegsExist s [d] →
      (RegsExist s [a] → exec (.setRR d a) s = .next { s with regs := wr s d (rv s a), pc := s.pc + 3 }) ∧
      exec (.setRI d v) s = .next { s with regs := wr s d v, pc := s.pc + 4 }

/-- SETREGS, all four forms: the run of registers takes the value words that follow the operands, the rest keep their
values; a run past the last register and words past the end are faults (the spec's decision D24). -/
def Obligations.SetregsLoadsRun : Prop :=
  ∀ (s : State) (a b : Reg) (u v : Word),
    (RegsExist s [a, b] → SetsRun (.setregsRR a b) s (rv s a).toNat (rv s b).toNat (s.pc + 3)) ∧
    (RegsExist s [a] → SetsRun (.setregsRI a v) s (rv s a).toNat v.toNat (s.pc + 4)) ∧
    (RegsExist s [b] → SetsRun (.setregsIR u b) s u.toNat (rv s b).toNat (s.pc + 4)) ∧
    SetsRun (.setregsII u v) s u.toNat v.toNat (s.pc + 5)

/-- LDA, both forms: the destination takes the word the oracle answers, a FREE VALUE, for an admitted address; another is a
fault (the spec's decision D22). -/
def Obligations.LdaLoadsOracleWord : Prop :=
  ∀ (s : State) (d a : Reg) (v : Word), RegsExist s [d] →
    (RegsExist s [a] → LoadsCc (.ldaRR d a) s d (rv s a) 3) ∧ LoadsCc (.ldaRI d v) s d v 4

/-- LDR: loads the register the pointer's old value names and increments the pointer; refused where both operands are the
same register, a fault where the pointer is out of range (the spec's decision D23). -/
def Obligations.LdrLoadsAndIncrements : Prop :=
  ∀ (s : State) (d p : Reg), RegsExist s [d, p] →
    (d ≠ p → (rv s p).toNat < s.nregs →
      exec (.ldrRR d p) s = .next { s with
        regs := (wr s d (s.reg (rv s p).toNat)).set p.toNat (BitVec.ofNat 16 ((rv s p).toNat + 1))
        pc := s.pc + 3 }) ∧
    (d = p → exec (.ldrRR d p) s = .next { s with mode := .refused .ldrSameRegister }) ∧
    (d ≠ p → s.nregs ≤ (rv s p).toNat → exec (.ldrRR d p) s = .next (faulted s (.regIndex (rv s p).toNat)))

/-! ### Observing -/

/-- FRAME, both forms: the picture is emitted and the sequence parked; a FID without an FDB is a fault (the spec's decision
D26). -/
def Obligations.FrameRequestsPicture : Prop :=
  ∀ (s : State) (r : Reg) (v : Word),
    (RegsExist s [r] → TakesFrame (.frameR r) s (rv s r) 2) ∧ TakesFrame (.frameI v) s v 3

/-- FRMPF, all eight forms: as FRAME, with the PZT offset index and the signed focus offset (the spec's decision D26). -/
def Obligations.FrmpfRequestsOffsetPicture : Prop :=
  ∀ (s : State) (a b c : Reg) (u v w : Word),
    (RegsExist s [a, b, c] → TakesFrmpf (.frmpfRRR a b c) s (rv s a) (rv s b) (rv s c) 4) ∧
    (RegsExist s [a, b] → TakesFrmpf (.frmpfRRI a b w) s (rv s a) (rv s b) w 5) ∧
    (RegsExist s [a, c] → TakesFrmpf (.frmpfRIR a v c) s (rv s a) v (rv s c) 5) ∧
    (RegsExist s [a] → TakesFrmpf (.frmpfRII a v w) s (rv s a) v w 6) ∧
    (RegsExist s [b, c] → TakesFrmpf (.frmpfIRR u b c) s u (rv s b) (rv s c) 5) ∧
    (RegsExist s [b] → TakesFrmpf (.frmpfIRI u b w) s u (rv s b) w 6) ∧
    (RegsExist s [c] → TakesFrmpf (.frmpfIIR u v c) s u v (rv s c) 6) ∧
    TakesFrmpf (.frmpfIII u v w) s u v w 7

/-- SAMP, all four forms, with their encoding: a zero in either operand leaves its cell unchanged; a register that does not
exist is a fault (the spec's decisions D2, D28: log entries 8, 9, 17). -/
def Obligations.SampSetsNonzeroCells : Prop :=
  ∀ (a b : Reg) (u v : Word),
    EncodedAs (.sampRR a b) 0x91 3 ∧ EncodedAs (.sampRI a v) 0x95 4 ∧ EncodedAs (.sampIR u b) 0x99 4 ∧
    EncodedAs (.sampII u v) 0x9D 5 ∧
    RaisesRegIndex (.sampRR a b) ∧ RaisesRegIndex (.sampRI a v) ∧ RaisesRegIndex (.sampIR u b) ∧
    ∀ s : State,
      (RegsExist s [a, b] → exec (.sampRR a b) s = .next (sampled s (rv s a) (rv s b) 3)) ∧
      (RegsExist s [a] → exec (.sampRI a v) s = .next (sampled s (rv s a) v 4)) ∧
      (RegsExist s [b] → exec (.sampIR u b) s = .next (sampled s u (rv s b) 4)) ∧
      exec (.sampII u v) s = .next (sampled s u v 5)

/-- STTG, all four forms: the wedge positions of the last target with the ID's high 24 bits go to the CC and the sequence
is parked; an unknown target is a fault (the spec's decisions D10, D26). -/
def Obligations.SttgRequestsTarget : Prop :=
  ∀ (s : State) (a b : Reg) (u v : Word),
    (RegsExist s [a, b] → SetsTarget (.sttgRR a b) s (rv s b ++ rv s a) 3) ∧
    (RegsExist s [a] → SetsTarget (.sttgRI a v) s (v ++ rv s a) 4) ∧
    (RegsExist s [b] → SetsTarget (.sttgIR u b) s (rv s b ++ u) 4) ∧
    SetsTarget (.sttgII u v) s (v ++ u) 5

/-- LOCKBUF: with a current buffer its status becomes locked, `$NBF` is decremented, `$CBF` and the current buffer take the
FREE VALUE of `NextAvailable`, and the event is emitted; with none, only the pc advances (log entry 7; the spec's
decisions D25, D27). -/
def Obligations.LockbufLocksCurrentBuffer : Prop :=
  ∀ (s : State) (locked : Flare),
    locked = ⟨s.flare.buffers.map (fun b => if s.flare.current = some b.1 then (b.1, .locked) else b), s.flare.current⟩ →
    ((∃ b ∈ s.flare.buffers, s.flare.current = some b.1) →
      exec .lockbuf s = .next
        { ((s.setBuiltin .nbf (BitVec.ofNat 16 ((s.builtin .nbf).toNat + 65535))).setBuiltin .cbf
            (Config.nextAvailable locked).2) with
          flare := ⟨locked.buffers, (Config.nextAvailable locked).1⟩
          trace := s.trace ++ [.lockBuf]
          pc := s.pc + 1 }) ∧
    ((∀ b ∈ s.flare.buffers, s.flare.current ≠ some b.1) → exec .lockbuf s = .next { s with pc := s.pc + 1 })

/-- RESETAEC, with its encoding: every current level takes its default. -/
def Obligations.ResetaecCopiesDefaults : Prop :=
  EncodedAs .resetaec 0xEE 1 ∧ ∀ s : State, ∃ levels : Vector Nat 128, (∀ i : Fin 128, levels[i] = s.aecDef[i]) ∧
    exec .resetaec s = .next { s with aecCur := levels, trace := s.trace ++ [.resetAec], pc := s.pc + 1 }

/-- STARTAVE, with its encoding. -/
def Obligations.StartaveSetsFlag : Prop :=
  EncodedAs .startave 0xF0 1 ∧
    ∀ s : State, exec .startave s =
      .next { s with startAve := true, trace := s.trace ++ [.startAve], pc := s.pc + 1 }

/-- UPDIMAX, with its encoding: the coordinates are the oracle's, a FREE VALUE (log entry 6). -/
def Obligations.UpdimaxTakesOracleCoordinates : Prop :=
  EncodedAs .updimax 0xF2 1 ∧
    ∀ s : State, exec .updimax s = .next { s with
      imaxRow := (Config.imaxOf s.draws).1
      imaxCol := (Config.imaxOf s.draws).2
      draws := s.draws + 1
      trace := s.trace ++ [.updImax]
      pc := s.pc + 1 }

/-! ### Fetching and decoding -/

/-- When the bytes at the pc of a running machine decode to an instruction, the step is that instruction's meaning, whether
the schedule is empty or names the execution (the schedule is the model's: log entry 5). -/
def Obligations.StepRunsDecodedInstruction : Prop :=
  ∀ (s : State) (i : Instr) (rest : List Byte), s.mode = .running → decode s.cfg (fetchWindow s) = .ok (i, rest) →
    (s.schedule = [] → step s = exec i s) ∧
    ∀ l, s.schedule = .exec :: l → step s = exec i { s with schedule := l }

/-- When a running machine's pc stands at the bytes of a well-formed instruction that lie in sequence space, the step is
that instruction's meaning, whether the schedule is empty or names the execution. With an empty schedule that holds with a
pending command too, where the spec leaves open which of the two comes first (the schedule and the order are the model's:
log entry 5). -/
def Obligations.StepRunsEncodedInstruction : Prop :=
  ∀ (s : State) (i : Instr), s.cfg.wf = true → i.wellFormed s.cfg = true → s.mode = .running →
    s.pc + (encode s.cfg i).length ≤ s.cfg.seqSize →
    s.mem.bytes s.pc (encode s.cfg i).length = encode s.cfg i →
    (s.schedule = [] → step s = exec i s) ∧
    ∀ l, s.schedule = .exec :: l → step s = exec i { s with schedule := l }

/-- When the fetch of a running machine gives no instruction, the step records the fault or the refusal and changes nothing
else, whether the schedule is empty or names the execution (the spec's decisions D9, D10, D11, D28; the schedule is the
model's: log entry 5). -/
def Obligations.FailedFetchStops : Prop :=
  ∀ (s : State) (e : Rejection), s.mode = .running → decode s.cfg (fetchWindow s) = .error e →
    ExecutionLeavesMode s (modeOfRejection s.pc e)

/-- A running machine at an unassigned byte raises `IllegalOpcode`, at a byte of 83, 87, 8B, 8F or C2 under the refusing
setting it refuses, and past the end of sequence space it raises `FetchBounds`, whether the schedule is empty or names the
execution (the spec's decisions D9, D10, D11, D28; the schedule is the model's: log entry 5). -/
def Obligations.BytesWithoutMeaningStop : Prop :=
  ∀ s : State, s.mode = .running →
    (s.cfg.seqSize ≤ s.pc → ExecutionLeavesMode s (.faulted (.fetchBounds s.pc))) ∧
    (s.pc < s.cfg.seqSize → s.mem.read s.pc ∉ assignedOpcodes →
      (∀ q, s.cfg.sttgOpcodes = some q → s.mem.read s.pc ∉ [q.rr, q.ri, q.ir, q.ii]) →
      ExecutionLeavesMode s (.faulted (.illegalOpcode (s.mem.read s.pc)))) ∧
    (s.pc < s.cfg.seqSize → s.cfg.opc83 = .refuse → s.mem.read s.pc ∈ ([0x83, 0x87, 0x8B, 0x8F] : List Byte) →
      ExecutionLeavesMode s (.refused .opcode83)) ∧
    (s.pc < s.cfg.seqSize → s.cfg.ubrC2 = .refuse → s.mem.read s.pc = 0xC2 →
      ExecutionLeavesMode s (.refused .ubrC2))

/-- A few words of the spec's encodings decode to the instructions they stand for. -/
def Obligations.SampleWordsDecode : Prop :=
  decode Config.default [0x03, 0x0A, 0x0B, 0x05, 0x00] = .ok (.addRRI 10 11 5, []) ∧
  decode Config.default [0x0A, 0x20, 0x01, 0x05, 0x03, 0x00] = .ok (.beqARI 0x0120 5 3, []) ∧
  decode Config.default [0x8D, 0x11, 0x00, 0x00, 0x00] = .ok (.cllII 0x0011 0, []) ∧
  decode Config.default [0xBA, 0x64, 0x00] = .ok (.delayI 100, []) ∧
  decode Config.default [0x8F, 0x14, 0x00, 0x03, 0x00, 0x64, 0x00] = .ok (.setregsII 20 3, [0x64, 0x00]) ∧
  decode Config.default [0x7E, 0x28, 0x01, 0x00, 0x00, 0xFE, 0xFF] = .ok (.frmpfIII 0x0128 0 0xFFFE, [])

/-- Decoding the bytes of a well-formed instruction gives it back, with every operand at every value and whatever bytes
follow. -/
def Obligations.DecodeEncodeRoundTrip : Prop :=
  ∀ (c : Config) (i : Instr) (rest : List Byte), c.wf = true → i.wellFormed c = true →
    decode c (encode c i ++ rest) = .ok (i, rest)

/-- Whatever decodes is well formed and its encoding is the bytes it was read from, wherever no instruction has two
encodings (STTG has where it owns both the contested bytes and four of its own, UBR & where C2 reads as CA does). -/
def Obligations.EncodeDecodeRoundTrip : Prop :=
  ∀ (c : Config) (bytes rest : List Byte) (i : Instr), c.wf = true → c.opc83 ≠ .sttg ∨ c.sttgOpcodes = none →
    c.ubrC2 ≠ .addr → decode c bytes = .ok (i, rest) → i.wellFormed c = true ∧ bytes = encode c i ++ rest

/-- An instruction with a register operand whose number is not below `P_NREGS` raises `RegIndex` with the first such number
and changes nothing else (the spec's decisions D2, D28). -/
def Obligations.MissingRegisterRaisesRegIndex : Prop := ∀ i : Instr, RaisesRegIndex i

/-- The instruction placed by `withFetchWord` is the one the very next step runs (the placing is the model's: log entry
11). -/
def Obligations.PlacedInstructionRunsNext : Prop :=
  ∀ (s : State) (nbits w : Nat) (i : Instr), s.cfg = Config.default → s.mem.wf = true → nbits ≤ 56 →
    decodeTableWord nbits w = some i →
    step (s.withFetchWord nbits w) = exec i (s.withFetchWord nbits w)

/-! ### The machine as a whole -/

/-- Every step keeps the invariant: parameters in range, sequence space canonical, the pc and every return address inside
sequence space or at its end, the call stack within its depth, the waits and the idle mode as promised. -/
def Obligations.StepKeepsInvariant : Prop := ∀ s t : State, s.Inv → step s = .next t → t.Inv

/-- The state after reset has the invariant. -/
def Obligations.ResetHasInvariant : Prop := State.reset.Inv

/-- After reset nothing runs: the call stack, the list, the pending slot and the trace are empty and the mode is idle (the
spec's decision D31), so that the machine has no step until something is scheduled. -/
def Obligations.ResetIsIdle : Prop :=
  State.reset.callStack = [] ∧ State.reset.seqList = [] ∧ State.reset.pending = none ∧ State.reset.mode = .idle ∧
    State.reset.trace = [] ∧ State.reset.final = true ∧ step State.reset = .fault .stuck

/-- No step of either agent changes the parameters, the tables, sequence space, the number of registers or the default
exposure levels. -/
def Obligations.StepKeepsFixedParts : Prop := ∀ s t : State, step s = .next t → SameFixed s t

/-- An instruction that gives a next state leaves every register it does not name as a destination unchanged, and every
byte of sequence space. -/
def Obligations.InstructionRegisterFrame : Prop :=
  ∀ (i : Instr) (s t : State), exec i s = .next t →
    (∀ n, n ∉ writtenRegs s i → t.reg n = s.reg n) ∧ ∀ a, t.mem.read a = s.mem.read a

/-- `hk_seq_id` is written by SID only, with the ID a SID carries, and read by no instruction: from a state that differs in
it alone an instruction leaves a state that differs in it alone, or in nothing where it is a SID that goes on. -/
def Obligations.TelemetryIdWrittenBySidOnly : Prop :=
  (∀ s t : State, step s = .next t → t.hkSeqId ≠ s.hkSeqId →
    s.mode = .running ∧ ∃ i, s.fetch = .ok i ∧ isSid i = true ∧ t.trace = s.trace ++ [.telemetry t.hkSeqId]) ∧
  ∀ (i : Instr) (s : State) (h : SeqId),
    exec i { s with hkSeqId := h } =
      mapNext (fun t => { t with hkSeqId := if isSid i = true ∧ t.pc ≠ s.pc then t.hkSeqId else h }) (exec i s)

/-- `RefTime` is written by SRT only, and read by TIM only: a call does not save it and a return does not restore it. -/
def Obligations.RefTimeWrittenBySrtReadByTim : Prop :=
  (∀ s t : State, step s = .next t → t.refTime ≠ s.refTime →
    s.mode = .running ∧ s.fetch = .ok .srt ∧ t.refTime = s.lobt) ∧
  ∀ (i : Instr) (s : State) (r : Nat), isTim i = false →
    exec i { s with refTime := r } = mapNext (fun t => { t with refTime := if i = .srt then t.refTime else r }) (exec i s)

/-- A fault or a refusal is never left: every step from such a state keeps the mode, and only an environment's event can be
that step (the spec's decision D28). -/
def Obligations.StoppedModeIsNeverLeft : Prop :=
  ∀ s t : State, s.mode.stopped = true → step s = .next t →
    t.mode = s.mode ∧ t.pc = s.pc ∧ t.callStack = s.callStack ∧
      ∃ a l, s.schedule = a :: l ∧ a ≠ .exec ∧ a ≠ .startPending

/-- Faults are precise: an instruction that ends in a fault or a refusal has changed the mode and nothing else, but where
the next sequence of the list is not found, which RET and EXIT report with the ended sequence's effects standing (the
spec's decision D28). -/
def Obligations.FaultingInstructionChangesNothingElse : Prop :=
  ∀ (i : Instr) (s t : State), s.mode = .running → exec i s = .next t → t.mode.stopped = true →
    t = { s with mode := t.mode } ∨
    ∃ id ids, s.callStack = [] ∧ s.seqList = id :: ids ∧ s.findSeq id = none ∧ t.mode = .faulted (.seqNotFound id) ∧
      t.seqList = ids ∧ t.pc = s.pc ∧ (i = .ret ∨ (∃ r, i = .exitR r) ∨ ∃ v, i = .exitI v)

/-- Each wait is left by its own event only, the timed ones by the start of a pending command too: WAIT by the tick that
ends it, DELAY by a tick that reaches its time, TIM by a time that is late enough, the frame wait by `FrameDone`, the slew
wait by `SlewDone`. Nothing is executed meanwhile: a step that is no start keeps where the sequence is, and a scheduled
execution in a mode other than running is no step (the spec's decisions D18, D19, D29, D32; the schedule is the model's:
log entry 5). -/
def Obligations.DeferringWaitsLeftByOwnEvent : Prop :=
  (∀ s t : State, step s = .next t → t.mode ≠ s.mode →
    (∀ k, s.mode = .waitTicks k → StartIsNext s ∨
      ((∃ l, s.schedule = .tick :: l) ∧ t.mode = if k = 1 then .running else .waitTicks (k - 1))) ∧
    (∀ d, s.mode = .waitDelay d → StartIsNext s ∨
      ((∃ l, s.schedule = .tick :: l) ∧ d ≤ s.nowTicks + 1 ∧ t.mode = .running)) ∧
    (∀ d, s.mode = .waitTime d → StartIsNext s ∨
      ∃ v l, s.schedule = .lobt v :: l ∧ d ≤ v ∧ t.mode = .running) ∧
    (s.mode = .waitFrame → t.mode = .running ∧ ∃ r l, s.schedule = .frameDone r :: l) ∧
    (s.mode = .waitSlew → t.mode = .running ∧ ∃ l, s.schedule = .slewDone :: l)) ∧
  (∀ s t : State, step s = .next t → Waiting s.mode → ¬StartIsNext s →
    t.pc = s.pc ∧ t.callStack = s.callStack ∧ t.seqList = s.seqList ∧ t.refTime = s.refTime ∧ t.trace = s.trace) ∧
  ∀ (s : State) (l : List Action), s.mode ≠ .running → s.schedule = .exec :: l →
    step s = .fault (.notEnabled .exec)

/-- `StartPending`, scheduled: with a pending command, in the modes idle, running and the three timed waits, it drops the
running sequences and enters the first of the command; a missing header is a fault after those writes; with none pending,
in the frame wait, in the slew wait and in a stopped mode there is no such step (the spec's decisions D15, D18). -/
def Obligations.StartPendingEntersFirstSequence : Prop :=
  ∀ (s : State) (l : List Action), s.schedule = .startPending :: l →
    (∀ c, s.pending = some c → MayStart s.mode →
      (∀ a, s.findSeq c.first = some a → step s = .next { started s c a with schedule := l }) ∧
      (s.findSeq c.first = none → step s = .next { startFailed s c with schedule := l })) ∧
    (s.pending = none ∨ ¬MayStart s.mode → step s = .fault (.notEnabled .startPending))

/-- `Tick`, scheduled, in every mode: the counter goes up by one; WAIT counts down, DELAY ends when its time comes, and
nothing else changes (the spec's decision D19). -/
def Obligations.TickCountsAndEndsWaits : Prop :=
  ∀ (s : State) (l : List Action), s.schedule = .tick :: l →
    (s.mode = .waitTicks 1 →
      step s = .next { s with nowTicks := s.nowTicks + 1, mode := .running, schedule := l }) ∧
    (∀ k, 1 < k → s.mode = .waitTicks k →
      step s = .next { s with nowTicks := s.nowTicks + 1, mode := .waitTicks (k - 1), schedule := l }) ∧
    (∀ t, s.mode = .waitDelay t → t ≤ s.nowTicks + 1 →
      step s = .next { s with
        nowTicks := s.nowTicks + 1
        delayTime := s.nowTicks + 1
        mode := .running
        schedule := l }) ∧
    ((∀ k, 0 < k → s.mode ≠ .waitTicks k) → (∀ t, s.mode = .waitDelay t → s.nowTicks + 1 < t) →
      step s = .next { s with nowTicks := s.nowTicks + 1, schedule := l })

/-- A WAIT of `k` ticks is still waiting after fewer than `k` ticks and running after the `k`-th (the spec's decision
D19). -/
def Obligations.WaitEndsAtLastTick : Prop :=
  ∀ (s : State) (k n : Nat), s.mode = .waitTicks k → 1 ≤ k → n ≤ k →
    stepsFrom n { s with schedule := List.replicate n .tick } = .next
      { s with
        nowTicks := s.nowTicks + n
        mode := if n = k then .running else .waitTicks (k - n)
        schedule := [] }

/-- The environment's other events, scheduled: `Lobt` sets a time that is not earlier and ends a TIM whose time has come;
`FrameDone` and `SlewDone` end their waits and exist in no other mode; `NewSequence` fills the pending slot in every mode;
`EnvWrite`, in every mode, changes the one cell it names: an exposure level, the flare buffers, `$NBF` or `$CBF` (the
register it is mapped onto, or its own cell), the IMAX row or column, `start_ave` (cleared), and the amplifier selection and
the wedge request, which are of the model's union of two lists (the spec's decisions D18, D21, D25, D29, D32; log entry
10). -/
def Obligations.EnvironmentEventsStep : Prop :=
  ∀ (s : State) (l : List Action),
    (∀ v, s.schedule = .lobt v :: l → s.lobt ≤ v →
      (∀ t, s.mode = .waitTime t → t ≤ v → step s = .next { s with lobt := v, mode := .running, schedule := l }) ∧
      ((∀ t, s.mode = .waitTime t → v < t) → step s = .next { s with lobt := v, schedule := l })) ∧
    (∀ v, s.schedule = .lobt v :: l → v < s.lobt → step s = .fault (.notEnabled (.lobt v))) ∧
    (∀ r, s.schedule = .frameDone r :: l →
      (s.mode = .waitFrame → step s = .next { s with mode := .running, schedule := l }) ∧
      (s.mode ≠ .waitFrame → step s = .fault (.notEnabled (.frameDone r)))) ∧
    (s.schedule = .slewDone :: l →
      (s.mode = .waitSlew → step s = .next { s with mode := .running, schedule := l }) ∧
      (s.mode ≠ .waitSlew → step s = .fault (.notEnabled .slewDone))) ∧
    (∀ c, s.schedule = .newSequence c :: l → step s = .next { s with pending := some c, schedule := l }) ∧
    (∀ i v, s.schedule = .envWrite (.aecCur i v) :: l →
      step s = .next { s with aecCur := s.aecCur.set i v, schedule := l }) ∧
    (∀ f, s.schedule = .envWrite (.flare f) :: l → step s = .next { s with flare := f, schedule := l }) ∧
    (∀ v, s.schedule = .envWrite (.nbf v) :: l →
      WritesBuiltin s l s.cfg.builtinReg.nbf (fun t => { t with nbf := v }) v) ∧
    (∀ v, s.schedule = .envWrite (.cbf v) :: l →
      WritesBuiltin s l s.cfg.builtinReg.cbf (fun t => { t with cbf := v }) v) ∧
    (∀ v, s.schedule = .envWrite (.imaxRow v) :: l → step s = .next { s with imaxRow := v, schedule := l }) ∧
    (∀ v, s.schedule = .envWrite (.imaxCol v) :: l → step s = .next { s with imaxCol := v, schedule := l }) ∧
    (s.schedule = .envWrite .clearStartAve :: l → step s = .next { s with startAve := false, schedule := l }) ∧
    (∀ v, s.schedule = .envWrite (.camAmp v) :: l → step s = .next { s with camAmp := v, schedule := l }) ∧
    (∀ w, s.schedule = .envWrite (.wedgeRequest w) :: l →
      step s = .next { s with wedgeRequest := w, schedule := l })

/-- Time and the trace only go forward: LOBT never decreases, the tick counter moves by one and on `Tick` only, and no
emitted event is taken back (the spec's decisions D19, D21). -/
def Obligations.ClocksAndTraceOnlyAdvance : Prop :=
  ∀ s t : State, step s = .next t →
    s.lobt ≤ t.lobt ∧ (t.nowTicks = s.nowTicks ∨ (t.nowTicks = s.nowTicks + 1 ∧ ∃ l, s.schedule = .tick :: l)) ∧
    ∃ es, t.trace = s.trace ++ es

/-- `FindSeq` answers the first header on the chain that carries the ID, within `P_SEQ_SIZE` headers, and nothing where
there is none (the spec's decision D15). -/
def Obligations.FindSeqIsFirstMatchOnChain : Prop :=
  ∀ (s : State) (id : SeqId) (a : Nat), s.findSeq id = some a ↔
    ∃ k < s.cfg.seqSize, chainAt s k = a ∧ idAt s a = id ∧ HeaderAt s a ∧
      ∀ j < k, HeaderAt s (chainAt s j) ∧ idAt s (chainAt s j) ≠ id

/-- A call and the return from it: whatever the called sequence did, if it left the call stack as the call left it, its RET
resumes the caller after the call with the caller's delay time and call stack (the spec's decisions D16, D17). -/
def Obligations.CallThenReturnResumesCaller : Prop :=
  ∀ (s t u : State) (lo hi : Word) (a : Nat), s.callStack.length ≠ s.cfg.callDepth → s.findSeq (hi ++ lo) = some a →
    exec (.cllII lo hi) s = .next t → u.callStack = t.callStack →
    t.pc = a ∧ exec .ret u = .next { u with
      callStack := s.callStack
      pc := s.pc + 5
      delayTime := s.delayTime
      mode := .running }

/-- A built-in mapped onto a register is that register, one storage with two names; an unmapped one is a cell of its own
(the spec's decision D25). -/
def Obligations.BuiltinHasOneStorage : Prop :=
  ∀ (s : State) (b : Builtin) (v : Word),
    (builtinMapped s b → (s.setBuiltin b v).builtin b = v) ∧
    (∀ n, builtinReg s.cfg.builtinReg b = some n → s.setBuiltin b v = { s with regs := s.regs.set n v }) ∧
    (builtinReg s.cfg.builtinReg b = none → (s.setBuiltin b v).regs = s.regs ∧
      ∀ b', b' ≠ b → (s.setBuiltin b v).builtin b' = s.builtin b')

/-- With an empty schedule and nothing running a pending command starts where the mode lets it, or fails where no header
carries its first ID; where no sequencer step is enabled, the final state among them, there is no step (the choice is the
model's: log entry 5; the spec's decisions D15, D18). -/
def Obligations.EmptyScheduleStep : Prop :=
  ∀ s : State, s.schedule = [] → s.mode ≠ .running →
    (∀ c, s.pending = some c → MayStart s.mode →
      (∀ a, s.findSeq c.first = some a → step s = .next (started s c a)) ∧
      (s.findSeq c.first = none → step s = .next (startFailed s c))) ∧
    (s.pending = none ∨ ¬MayStart s.mode → step s = .fault .stuck)
end

