-- ==== Sys2Proof/Laws/Decode.lean ====
section
/-! SUPPORT. The byte order of a word read back, and what the readers of operands do. -/

namespace Sys2Proof

/-- The word made of the two bytes a word is stored as is that word, in either byte order. -/
@[simp] theorem wordOf_bytes (o : ByteOrder) (w : Word) : wordOf o (firstByte o w) (secondByte o w) = w := by
  have h : w.extractLsb' 8 8 ++ w.extractLsb' 0 8 = w := by
    ext i hi
    rw [BitVec.getElem_append]
    split
    · simp [BitVec.getLsbD_eq_getElem hi]
    · rw [BitVec.getElem_extractLsb', show 8 + (i - 8) = i by omega, BitVec.getLsbD_eq_getElem hi]
  cases o <;> exact h

/-- The bytes of the word made of two bytes are those bytes. -/
@[simp] theorem firstByte_wordOf (o : ByteOrder) (a b : Byte) : firstByte o (wordOf o a b) = a := by
  cases o <;> simp only [wordOf, firstByte] <;> ext i hi <;>
    rw [BitVec.getElem_extractLsb', BitVec.getLsbD_append] <;> simp [hi]

@[simp] theorem secondByte_wordOf (o : ByteOrder) (a b : Byte) : secondByte o (wordOf o a b) = b := by
  cases o <;> simp only [wordOf, secondByte] <;> ext i hi <;>
    rw [BitVec.getElem_extractLsb', BitVec.getLsbD_append] <;> simp [hi]

@[simp] theorem takeR_cons (off : Nat) (b : Byte) (bs : List Byte) (k : Reg → List Byte → Decoded) :
    takeR off (b :: bs) k = k b bs := rfl

@[simp] theorem takeR_nil (off : Nat) (k : Reg → List Byte → Decoded) : takeR off [] k = .error (.short off) := rfl

@[simp] theorem takeW_cons (o : ByteOrder) (off : Nat) (b0 b1 : Byte) (bs : List Byte) (k : Word → List Byte → Decoded) :
    takeW o off (b0 :: b1 :: bs) k = k (wordOf o b0 b1) bs := rfl

@[simp] theorem takeW_nil (o : ByteOrder) (off : Nat) (k : Word → List Byte → Decoded) :
    takeW o off [] k = .error (.short off) := rfl

@[simp] theorem takeW_one (o : ByteOrder) (off : Nat) (b : Byte) (k : Word → List Byte → Decoded) :
    takeW o off [b] k = .error (.short off) := rfl

/-- Exactly the assigned bytes other than the contested five have a row no parameter decides. -/
theorem plainRow_isSome (op : Byte) :
    (plainRow op).isSome = (assignedOpcodes.contains op && !([0x83, 0x87, 0x8B, 0x8F, 0xC2] : List Byte).contains op) := by
  revert op; decide +kernel

/-- A byte that is not assigned is one of STTG's own bytes or has no row. -/
theorem rowOf_unassigned (c : Config) (op : Byte) (h : assignedOpcodes.contains op = false) :
    rowOf c op = extraRow c op := by
  have hp : plainRow op = none := by
    have := plainRow_isSome op
    rw [h, Bool.false_and] at this
    simpa using this
  have hne : ∀ b ∈ ([0x83, 0x87, 0x8B, 0x8F, 0xC2] : List Byte), op ≠ b := by
    intro b hb e
    subst e
    revert op
    decide +kernel
  simp only [rowOf, hp, if_neg (hne 0x83 (by decide)), if_neg (hne 0x87 (by decide)), if_neg (hne 0x8B (by decide)),
    if_neg (hne 0x8F (by decide)), if_neg (hne 0xC2 (by decide))]

end Sys2Proof
end

