-- ==== Sys2Proof/Laws/State.lean ====
section
/-! SUPPORT. What each named update of the state leaves in each field: one lemma per field per update. -/

namespace Sys2Proof.Machine

@[simp] theorem State.raise_cfg (s : State) (c : Cause) : (s.raise c).cfg = s.cfg := rfl
@[simp] theorem State.raise_tables (s : State) (c : Cause) : (s.raise c).tables = s.tables := rfl
@[simp] theorem State.raise_mem (s : State) (c : Cause) : (s.raise c).mem = s.mem := rfl
@[simp] theorem State.raise_regs (s : State) (c : Cause) : (s.raise c).regs = s.regs := rfl
@[simp] theorem State.raise_pc (s : State) (c : Cause) : (s.raise c).pc = s.pc := rfl
@[simp] theorem State.raise_rtn (s : State) (c : Cause) : (s.raise c).rtn = s.rtn := rfl
@[simp] theorem State.raise_nbf (s : State) (c : Cause) : (s.raise c).nbf = s.nbf := rfl
@[simp] theorem State.raise_cbf (s : State) (c : Cause) : (s.raise c).cbf = s.cbf := rfl
@[simp] theorem State.raise_refTime (s : State) (c : Cause) : (s.raise c).refTime = s.refTime := rfl
@[simp] theorem State.raise_delayTime (s : State) (c : Cause) : (s.raise c).delayTime = s.delayTime := rfl
@[simp] theorem State.raise_callStack (s : State) (c : Cause) : (s.raise c).callStack = s.callStack := rfl
@[simp] theorem State.raise_seqList (s : State) (c : Cause) : (s.raise c).seqList = s.seqList := rfl
@[simp] theorem State.raise_pending (s : State) (c : Cause) : (s.raise c).pending = s.pending := rfl
@[simp] theorem State.raise_mode (s : State) (c : Cause) : (s.raise c).mode = .faulted c := rfl
@[simp] theorem State.raise_hkSeqId (s : State) (c : Cause) : (s.raise c).hkSeqId = s.hkSeqId := rfl
@[simp] theorem State.raise_camAmp (s : State) (c : Cause) : (s.raise c).camAmp = s.camAmp := rfl
@[simp] theorem State.raise_camAdcOffset (s : State) (c : Cause) : (s.raise c).camAdcOffset = s.camAdcOffset := rfl
@[simp] theorem State.raise_aecCur (s : State) (c : Cause) : (s.raise c).aecCur = s.aecCur := rfl
@[simp] theorem State.raise_aecDef (s : State) (c : Cause) : (s.raise c).aecDef = s.aecDef := rfl
@[simp] theorem State.raise_startAve (s : State) (c : Cause) : (s.raise c).startAve = s.startAve := rfl
@[simp] theorem State.raise_imaxRow (s : State) (c : Cause) : (s.raise c).imaxRow = s.imaxRow := rfl
@[simp] theorem State.raise_imaxCol (s : State) (c : Cause) : (s.raise c).imaxCol = s.imaxCol := rfl
@[simp] theorem State.raise_flare (s : State) (c : Cause) : (s.raise c).flare = s.flare := rfl
@[simp] theorem State.raise_wedgeRequest (s : State) (c : Cause) : (s.raise c).wedgeRequest = s.wedgeRequest := rfl
@[simp] theorem State.raise_nowTicks (s : State) (c : Cause) : (s.raise c).nowTicks = s.nowTicks := rfl
@[simp] theorem State.raise_lobt (s : State) (c : Cause) : (s.raise c).lobt = s.lobt := rfl
@[simp] theorem State.raise_trace (s : State) (c : Cause) : (s.raise c).trace = s.trace := rfl
@[simp] theorem State.raise_draws (s : State) (c : Cause) : (s.raise c).draws = s.draws := rfl
@[simp] theorem State.raise_schedule (s : State) (c : Cause) : (s.raise c).schedule = s.schedule := rfl

@[simp] theorem State.refuse_cfg (s : State) (r : Reason) : (s.refuse r).cfg = s.cfg := rfl
@[simp] theorem State.refuse_tables (s : State) (r : Reason) : (s.refuse r).tables = s.tables := rfl
@[simp] theorem State.refuse_mem (s : State) (r : Reason) : (s.refuse r).mem = s.mem := rfl
@[simp] theorem State.refuse_regs (s : State) (r : Reason) : (s.refuse r).regs = s.regs := rfl
@[simp] theorem State.refuse_pc (s : State) (r : Reason) : (s.refuse r).pc = s.pc := rfl
@[simp] theorem State.refuse_rtn (s : State) (r : Reason) : (s.refuse r).rtn = s.rtn := rfl
@[simp] theorem State.refuse_nbf (s : State) (r : Reason) : (s.refuse r).nbf = s.nbf := rfl
@[simp] theorem State.refuse_cbf (s : State) (r : Reason) : (s.refuse r).cbf = s.cbf := rfl
@[simp] theorem State.refuse_refTime (s : State) (r : Reason) : (s.refuse r).refTime = s.refTime := rfl
@[simp] theorem State.refuse_delayTime (s : State) (r : Reason) : (s.refuse r).delayTime = s.delayTime := rfl
@[simp] theorem State.refuse_callStack (s : State) (r : Reason) : (s.refuse r).callStack = s.callStack := rfl
@[simp] theorem State.refuse_seqList (s : State) (r : Reason) : (s.refuse r).seqList = s.seqList := rfl
@[simp] theorem State.refuse_pending (s : State) (r : Reason) : (s.refuse r).pending = s.pending := rfl
@[simp] theorem State.refuse_mode (s : State) (r : Reason) : (s.refuse r).mode = .refused r := rfl
@[simp] theorem State.refuse_hkSeqId (s : State) (r : Reason) : (s.refuse r).hkSeqId = s.hkSeqId := rfl
@[simp] theorem State.refuse_camAmp (s : State) (r : Reason) : (s.refuse r).camAmp = s.camAmp := rfl
@[simp] theorem State.refuse_camAdcOffset (s : State) (r : Reason) : (s.refuse r).camAdcOffset = s.camAdcOffset := rfl
@[simp] theorem State.refuse_aecCur (s : State) (r : Reason) : (s.refuse r).aecCur = s.aecCur := rfl
@[simp] theorem State.refuse_aecDef (s : State) (r : Reason) : (s.refuse r).aecDef = s.aecDef := rfl
@[simp] theorem State.refuse_startAve (s : State) (r : Reason) : (s.refuse r).startAve = s.startAve := rfl
@[simp] theorem State.refuse_imaxRow (s : State) (r : Reason) : (s.refuse r).imaxRow = s.imaxRow := rfl
@[simp] theorem State.refuse_imaxCol (s : State) (r : Reason) : (s.refuse r).imaxCol = s.imaxCol := rfl
@[simp] theorem State.refuse_flare (s : State) (r : Reason) : (s.refuse r).flare = s.flare := rfl
@[simp] theorem State.refuse_wedgeRequest (s : State) (r : Reason) : (s.refuse r).wedgeRequest = s.wedgeRequest := rfl
@[simp] theorem State.refuse_nowTicks (s : State) (r : Reason) : (s.refuse r).nowTicks = s.nowTicks := rfl
@[simp] theorem State.refuse_lobt (s : State) (r : Reason) : (s.refuse r).lobt = s.lobt := rfl
@[simp] theorem State.refuse_trace (s : State) (r : Reason) : (s.refuse r).trace = s.trace := rfl
@[simp] theorem State.refuse_draws (s : State) (r : Reason) : (s.refuse r).draws = s.draws := rfl
@[simp] theorem State.refuse_schedule (s : State) (r : Reason) : (s.refuse r).schedule = s.schedule := rfl

@[simp] theorem State.emit_cfg (s : State) (e : Event) : (s.emit e).cfg = s.cfg := rfl
@[simp] theorem State.emit_tables (s : State) (e : Event) : (s.emit e).tables = s.tables := rfl
@[simp] theorem State.emit_mem (s : State) (e : Event) : (s.emit e).mem = s.mem := rfl
@[simp] theorem State.emit_regs (s : State) (e : Event) : (s.emit e).regs = s.regs := rfl
@[simp] theorem State.emit_pc (s : State) (e : Event) : (s.emit e).pc = s.pc := rfl
@[simp] theorem State.emit_rtn (s : State) (e : Event) : (s.emit e).rtn = s.rtn := rfl
@[simp] theorem State.emit_nbf (s : State) (e : Event) : (s.emit e).nbf = s.nbf := rfl
@[simp] theorem State.emit_cbf (s : State) (e : Event) : (s.emit e).cbf = s.cbf := rfl
@[simp] theorem State.emit_refTime (s : State) (e : Event) : (s.emit e).refTime = s.refTime := rfl
@[simp] theorem State.emit_delayTime (s : State) (e : Event) : (s.emit e).delayTime = s.delayTime := rfl
@[simp] theorem State.emit_callStack (s : State) (e : Event) : (s.emit e).callStack = s.callStack := rfl
@[simp] theorem State.emit_seqList (s : State) (e : Event) : (s.emit e).seqList = s.seqList := rfl
@[simp] theorem State.emit_pending (s : State) (e : Event) : (s.emit e).pending = s.pending := rfl
@[simp] theorem State.emit_mode (s : State) (e : Event) : (s.emit e).mode = s.mode := rfl
@[simp] theorem State.emit_hkSeqId (s : State) (e : Event) : (s.emit e).hkSeqId = s.hkSeqId := rfl
@[simp] theorem State.emit_camAmp (s : State) (e : Event) : (s.emit e).camAmp = s.camAmp := rfl
@[simp] theorem State.emit_camAdcOffset (s : State) (e : Event) : (s.emit e).camAdcOffset = s.camAdcOffset := rfl
@[simp] theorem State.emit_aecCur (s : State) (e : Event) : (s.emit e).aecCur = s.aecCur := rfl
@[simp] theorem State.emit_aecDef (s : State) (e : Event) : (s.emit e).aecDef = s.aecDef := rfl
@[simp] theorem State.emit_startAve (s : State) (e : Event) : (s.emit e).startAve = s.startAve := rfl
@[simp] theorem State.emit_imaxRow (s : State) (e : Event) : (s.emit e).imaxRow = s.imaxRow := rfl
@[simp] theorem State.emit_imaxCol (s : State) (e : Event) : (s.emit e).imaxCol = s.imaxCol := rfl
@[simp] theorem State.emit_flare (s : State) (e : Event) : (s.emit e).flare = s.flare := rfl
@[simp] theorem State.emit_wedgeRequest (s : State) (e : Event) : (s.emit e).wedgeRequest = s.wedgeRequest := rfl
@[simp] theorem State.emit_nowTicks (s : State) (e : Event) : (s.emit e).nowTicks = s.nowTicks := rfl
@[simp] theorem State.emit_lobt (s : State) (e : Event) : (s.emit e).lobt = s.lobt := rfl
@[simp] theorem State.emit_trace (s : State) (e : Event) : (s.emit e).trace = s.trace ++ [e] := rfl
@[simp] theorem State.emit_draws (s : State) (e : Event) : (s.emit e).draws = s.draws := rfl
@[simp] theorem State.emit_schedule (s : State) (e : Event) : (s.emit e).schedule = s.schedule := rfl

@[simp] theorem State.setReg_cfg (s : State) (n : Nat) (v : Word) : (s.setReg n v).cfg = s.cfg := rfl
@[simp] theorem State.setReg_tables (s : State) (n : Nat) (v : Word) : (s.setReg n v).tables = s.tables := rfl
@[simp] theorem State.setReg_mem (s : State) (n : Nat) (v : Word) : (s.setReg n v).mem = s.mem := rfl
@[simp] theorem State.setReg_regs (s : State) (n : Nat) (v : Word) : (s.setReg n v).regs = s.regs.set n v := rfl
@[simp] theorem State.setReg_pc (s : State) (n : Nat) (v : Word) : (s.setReg n v).pc = s.pc := rfl
@[simp] theorem State.setReg_rtn (s : State) (n : Nat) (v : Word) : (s.setReg n v).rtn = s.rtn := rfl
@[simp] theorem State.setReg_nbf (s : State) (n : Nat) (v : Word) : (s.setReg n v).nbf = s.nbf := rfl
@[simp] theorem State.setReg_cbf (s : State) (n : Nat) (v : Word) : (s.setReg n v).cbf = s.cbf := rfl
@[simp] theorem State.setReg_refTime (s : State) (n : Nat) (v : Word) : (s.setReg n v).refTime = s.refTime := rfl
@[simp] theorem State.setReg_delayTime (s : State) (n : Nat) (v : Word) : (s.setReg n v).delayTime = s.delayTime := rfl
@[simp] theorem State.setReg_callStack (s : State) (n : Nat) (v : Word) : (s.setReg n v).callStack = s.callStack := rfl
@[simp] theorem State.setReg_seqList (s : State) (n : Nat) (v : Word) : (s.setReg n v).seqList = s.seqList := rfl
@[simp] theorem State.setReg_pending (s : State) (n : Nat) (v : Word) : (s.setReg n v).pending = s.pending := rfl
@[simp] theorem State.setReg_mode (s : State) (n : Nat) (v : Word) : (s.setReg n v).mode = s.mode := rfl
@[simp] theorem State.setReg_hkSeqId (s : State) (n : Nat) (v : Word) : (s.setReg n v).hkSeqId = s.hkSeqId := rfl
@[simp] theorem State.setReg_camAmp (s : State) (n : Nat) (v : Word) : (s.setReg n v).camAmp = s.camAmp := rfl
@[simp] theorem State.setReg_camAdcOffset (s : State) (n : Nat) (v : Word) : (s.setReg n v).camAdcOffset = s.camAdcOffset := rfl
@[simp] theorem State.setReg_aecCur (s : State) (n : Nat) (v : Word) : (s.setReg n v).aecCur = s.aecCur := rfl
@[simp] theorem State.setReg_aecDef (s : State) (n : Nat) (v : Word) : (s.setReg n v).aecDef = s.aecDef := rfl
@[simp] theorem State.setReg_startAve (s : State) (n : Nat) (v : Word) : (s.setReg n v).startAve = s.startAve := rfl
@[simp] theorem State.setReg_imaxRow (s : State) (n : Nat) (v : Word) : (s.setReg n v).imaxRow = s.imaxRow := rfl
@[simp] theorem State.setReg_imaxCol (s : State) (n : Nat) (v : Word) : (s.setReg n v).imaxCol = s.imaxCol := rfl
@[simp] theorem State.setReg_flare (s : State) (n : Nat) (v : Word) : (s.setReg n v).flare = s.flare := rfl
@[simp] theorem State.setReg_wedgeRequest (s : State) (n : Nat) (v : Word) : (s.setReg n v).wedgeRequest = s.wedgeRequest := rfl
@[simp] theorem State.setReg_nowTicks (s : State) (n : Nat) (v : Word) : (s.setReg n v).nowTicks = s.nowTicks := rfl
@[simp] theorem State.setReg_lobt (s : State) (n : Nat) (v : Word) : (s.setReg n v).lobt = s.lobt := rfl
@[simp] theorem State.setReg_trace (s : State) (n : Nat) (v : Word) : (s.setReg n v).trace = s.trace := rfl
@[simp] theorem State.setReg_draws (s : State) (n : Nat) (v : Word) : (s.setReg n v).draws = s.draws := rfl
@[simp] theorem State.setReg_schedule (s : State) (n : Nat) (v : Word) : (s.setReg n v).schedule = s.schedule := rfl

@[simp] theorem State.finish_cfg (s : State) (rd : Reg) (v : Word) (npc : Nat) : (s.finish rd v npc).cfg = s.cfg := rfl
@[simp] theorem State.finish_tables (s : State) (rd : Reg) (v : Word) (npc : Nat) : (s.finish rd v npc).tables = s.tables := rfl
@[simp] theorem State.finish_mem (s : State) (rd : Reg) (v : Word) (npc : Nat) : (s.finish rd v npc).mem = s.mem := rfl
@[simp] theorem State.finish_regs (s : State) (rd : Reg) (v : Word) (npc : Nat) : (s.finish rd v npc).regs = s.regs.set rd.toNat v := rfl
@[simp] theorem State.finish_pc (s : State) (rd : Reg) (v : Word) (npc : Nat) : (s.finish rd v npc).pc = npc := rfl
@[simp] theorem State.finish_rtn (s : State) (rd : Reg) (v : Word) (npc : Nat) : (s.finish rd v npc).rtn = s.rtn := rfl
@[simp] theorem State.finish_nbf (s : State) (rd : Reg) (v : Word) (npc : Nat) : (s.finish rd v npc).nbf = s.nbf := rfl
@[simp] theorem State.finish_cbf (s : State) (rd : Reg) (v : Word) (npc : Nat) : (s.finish rd v npc).cbf = s.cbf := rfl
@[simp] theorem State.finish_refTime (s : State) (rd : Reg) (v : Word) (npc : Nat) : (s.finish rd v npc).refTime = s.refTime := rfl
@[simp] theorem State.finish_delayTime (s : State) (rd : Reg) (v : Word) (npc : Nat) : (s.finish rd v npc).delayTime = s.delayTime := rfl
@[simp] theorem State.finish_callStack (s : State) (rd : Reg) (v : Word) (npc : Nat) : (s.finish rd v npc).callStack = s.callStack := rfl
@[simp] theorem State.finish_seqList (s : State) (rd : Reg) (v : Word) (npc : Nat) : (s.finish rd v npc).seqList = s.seqList := rfl
@[simp] theorem State.finish_pending (s : State) (rd : Reg) (v : Word) (npc : Nat) : (s.finish rd v npc).pending = s.pending := rfl
@[simp] theorem State.finish_mode (s : State) (rd : Reg) (v : Word) (npc : Nat) : (s.finish rd v npc).mode = s.mode := rfl
@[simp] theorem State.finish_hkSeqId (s : State) (rd : Reg) (v : Word) (npc : Nat) : (s.finish rd v npc).hkSeqId = s.hkSeqId := rfl
@[simp] theorem State.finish_camAmp (s : State) (rd : Reg) (v : Word) (npc : Nat) : (s.finish rd v npc).camAmp = s.camAmp := rfl
@[simp] theorem State.finish_camAdcOffset (s : State) (rd : Reg) (v : Word) (npc : Nat) : (s.finish rd v npc).camAdcOffset = s.camAdcOffset := rfl
@[simp] theorem State.finish_aecCur (s : State) (rd : Reg) (v : Word) (npc : Nat) : (s.finish rd v npc).aecCur = s.aecCur := rfl
@[simp] theorem State.finish_aecDef (s : State) (rd : Reg) (v : Word) (npc : Nat) : (s.finish rd v npc).aecDef = s.aecDef := rfl
@[simp] theorem State.finish_startAve (s : State) (rd : Reg) (v : Word) (npc : Nat) : (s.finish rd v npc).startAve = s.startAve := rfl
@[simp] theorem State.finish_imaxRow (s : State) (rd : Reg) (v : Word) (npc : Nat) : (s.finish rd v npc).imaxRow = s.imaxRow := rfl
@[simp] theorem State.finish_imaxCol (s : State) (rd : Reg) (v : Word) (npc : Nat) : (s.finish rd v npc).imaxCol = s.imaxCol := rfl
@[simp] theorem State.finish_flare (s : State) (rd : Reg) (v : Word) (npc : Nat) : (s.finish rd v npc).flare = s.flare := rfl
@[simp] theorem State.finish_wedgeRequest (s : State) (rd : Reg) (v : Word) (npc : Nat) : (s.finish rd v npc).wedgeRequest = s.wedgeRequest := rfl
@[simp] theorem State.finish_nowTicks (s : State) (rd : Reg) (v : Word) (npc : Nat) : (s.finish rd v npc).nowTicks = s.nowTicks := rfl
@[simp] theorem State.finish_lobt (s : State) (rd : Reg) (v : Word) (npc : Nat) : (s.finish rd v npc).lobt = s.lobt := rfl
@[simp] theorem State.finish_trace (s : State) (rd : Reg) (v : Word) (npc : Nat) : (s.finish rd v npc).trace = s.trace := rfl
@[simp] theorem State.finish_draws (s : State) (rd : Reg) (v : Word) (npc : Nat) : (s.finish rd v npc).draws = s.draws := rfl
@[simp] theorem State.finish_schedule (s : State) (rd : Reg) (v : Word) (npc : Nat) : (s.finish rd v npc).schedule = s.schedule := rfl

@[simp] theorem State.setBuiltin_cfg (s : State) (b : Builtin) (v : Word) : (s.setBuiltin b v).cfg = s.cfg := by
  unfold State.setBuiltin; cases builtinReg s.cfg.builtinReg b <;> cases b <;> rfl
@[simp] theorem State.setBuiltin_tables (s : State) (b : Builtin) (v : Word) : (s.setBuiltin b v).tables = s.tables := by
  unfold State.setBuiltin; cases builtinReg s.cfg.builtinReg b <;> cases b <;> rfl
@[simp] theorem State.setBuiltin_mem (s : State) (b : Builtin) (v : Word) : (s.setBuiltin b v).mem = s.mem := by
  unfold State.setBuiltin; cases builtinReg s.cfg.builtinReg b <;> cases b <;> rfl
@[simp] theorem State.setBuiltin_pc (s : State) (b : Builtin) (v : Word) : (s.setBuiltin b v).pc = s.pc := by
  unfold State.setBuiltin; cases builtinReg s.cfg.builtinReg b <;> cases b <;> rfl
@[simp] theorem State.setBuiltin_refTime (s : State) (b : Builtin) (v : Word) : (s.setBuiltin b v).refTime = s.refTime := by
  unfold State.setBuiltin; cases builtinReg s.cfg.builtinReg b <;> cases b <;> rfl
@[simp] theorem State.setBuiltin_delayTime (s : State) (b : Builtin) (v : Word) : (s.setBuiltin b v).delayTime = s.delayTime := by
  unfold State.setBuiltin; cases builtinReg s.cfg.builtinReg b <;> cases b <;> rfl
@[simp] theorem State.setBuiltin_callStack (s : State) (b : Builtin) (v : Word) : (s.setBuiltin b v).callStack = s.callStack := by
  unfold State.setBuiltin; cases builtinReg s.cfg.builtinReg b <;> cases b <;> rfl
@[simp] theorem State.setBuiltin_seqList (s : State) (b : Builtin) (v : Word) : (s.setBuiltin b v).seqList = s.seqList := by
  unfold State.setBuiltin; cases builtinReg s.cfg.builtinReg b <;> cases b <;> rfl
@[simp] theorem State.setBuiltin_pending (s : State) (b : Builtin) (v : Word) : (s.setBuiltin b v).pending = s.pending := by
  unfold State.setBuiltin; cases builtinReg s.cfg.builtinReg b <;> cases b <;> rfl
@[simp] theorem State.setBuiltin_mode (s : State) (b : Builtin) (v : Word) : (s.setBuiltin b v).mode = s.mode := by
  unfold State.setBuiltin; cases builtinReg s.cfg.builtinReg b <;> cases b <;> rfl
@[simp] theorem State.setBuiltin_hkSeqId (s : State) (b : Builtin) (v : Word) : (s.setBuiltin b v).hkSeqId = s.hkSeqId := by
  unfold State.setBuiltin; cases builtinReg s.cfg.builtinReg b <;> cases b <;> rfl
@[simp] theorem State.setBuiltin_camAmp (s : State) (b : Builtin) (v : Word) : (s.setBuiltin b v).camAmp = s.camAmp := by
  unfold State.setBuiltin; cases builtinReg s.cfg.builtinReg b <;> cases b <;> rfl
@[simp] theorem State.setBuiltin_camAdcOffset (s : State) (b : Builtin) (v : Word) : (s.setBuiltin b v).camAdcOffset = s.camAdcOffset := by
  unfold State.setBuiltin; cases builtinReg s.cfg.builtinReg b <;> cases b <;> rfl
@[simp] theorem State.setBuiltin_aecCur (s : State) (b : Builtin) (v : Word) : (s.setBuiltin b v).aecCur = s.aecCur := by
  unfold State.setBuiltin; cases builtinReg s.cfg.builtinReg b <;> cases b <;> rfl
@[simp] theorem State.setBuiltin_aecDef (s : State) (b : Builtin) (v : Word) : (s.setBuiltin b v).aecDef = s.aecDef := by
  unfold State.setBuiltin; cases builtinReg s.cfg.builtinReg b <;> cases b <;> rfl
@[simp] theorem State.setBuiltin_startAve (s : State) (b : Builtin) (v : Word) : (s.setBuiltin b v).startAve = s.startAve := by
  unfold State.setBuiltin; cases builtinReg s.cfg.builtinReg b <;> cases b <;> rfl
@[simp] theorem State.setBuiltin_imaxRow (s : State) (b : Builtin) (v : Word) : (s.setBuiltin b v).imaxRow = s.imaxRow := by
  unfold State.setBuiltin; cases builtinReg s.cfg.builtinReg b <;> cases b <;> rfl
@[simp] theorem State.setBuiltin_imaxCol (s : State) (b : Builtin) (v : Word) : (s.setBuiltin b v).imaxCol = s.imaxCol := by
  unfold State.setBuiltin; cases builtinReg s.cfg.builtinReg b <;> cases b <;> rfl
@[simp] theorem State.setBuiltin_flare (s : State) (b : Builtin) (v : Word) : (s.setBuiltin b v).flare = s.flare := by
  unfold State.setBuiltin; cases builtinReg s.cfg.builtinReg b <;> cases b <;> rfl
@[simp] theorem State.setBuiltin_wedgeRequest (s : State) (b : Builtin) (v : Word) : (s.setBuiltin b v).wedgeRequest = s.wedgeRequest := by
  unfold State.setBuiltin; cases builtinReg s.cfg.builtinReg b <;> cases b <;> rfl
@[simp] theorem State.setBuiltin_nowTicks (s : State) (b : Builtin) (v : Word) : (s.setBuiltin b v).nowTicks = s.nowTicks := by
  unfold State.setBuiltin; cases builtinReg s.cfg.builtinReg b <;> cases b <;> rfl
@[simp] theorem State.setBuiltin_lobt (s : State) (b : Builtin) (v : Word) : (s.setBuiltin b v).lobt = s.lobt := by
  unfold State.setBuiltin; cases builtinReg s.cfg.builtinReg b <;> cases b <;> rfl
@[simp] theorem State.setBuiltin_trace (s : State) (b : Builtin) (v : Word) : (s.setBuiltin b v).trace = s.trace := by
  unfold State.setBuiltin; cases builtinReg s.cfg.builtinReg b <;> cases b <;> rfl
@[simp] theorem State.setBuiltin_draws (s : State) (b : Builtin) (v : Word) : (s.setBuiltin b v).draws = s.draws := by
  unfold State.setBuiltin; cases builtinReg s.cfg.builtinReg b <;> cases b <;> rfl
@[simp] theorem State.setBuiltin_schedule (s : State) (b : Builtin) (v : Word) : (s.setBuiltin b v).schedule = s.schedule := by
  unfold State.setBuiltin; cases builtinReg s.cfg.builtinReg b <;> cases b <;> rfl

/-- The number of registers never changes under a write. -/
@[simp] theorem State.setReg_nregs (s : State) (n : Nat) (v : Word) : (s.setReg n v).nregs = s.nregs :=
  List.length_set

@[simp] theorem State.finish_nregs (s : State) (rd : Reg) (v : Word) (npc : Nat) : (s.finish rd v npc).nregs = s.nregs :=
  List.length_set

@[simp] theorem State.raise_nregs (s : State) (c : Cause) : (s.raise c).nregs = s.nregs := rfl

@[simp] theorem State.refuse_nregs (s : State) (r : Reason) : (s.refuse r).nregs = s.nregs := rfl

@[simp] theorem State.emit_nregs (s : State) (e : Event) : (s.emit e).nregs = s.nregs := rfl

@[simp] theorem State.setBuiltin_nregs (s : State) (b : Builtin) (v : Word) : (s.setBuiltin b v).nregs = s.nregs := by
  unfold State.setBuiltin
  cases builtinReg s.cfg.builtinReg b with
  | none => cases b <;> rfl
  | some n => exact s.setReg_nregs n v

/-- A register reads as what was written to it, if it exists. -/
theorem State.setReg_reg_self (s : State) (n : Nat) (v : Word) (h : n < s.nregs) : (s.setReg n v).reg n = v := by
  unfold State.nregs at h
  simp [State.reg, State.setReg, h]

/-- A write leaves every other register alone. -/
theorem State.setReg_reg_ne (s : State) (n m : Nat) (v : Word) (h : n ≠ m) : (s.setReg n v).reg m = s.reg m := by
  simp [State.reg, State.setReg, List.getElem?_set_ne h]

/-- The registers after a mapped or unmapped built-in is written. -/
theorem State.setBuiltin_regs (s : State) (b : Builtin) (v : Word) :
    (s.setBuiltin b v).regs = match builtinReg s.cfg.builtinReg b with
      | some n => s.regs.set n v
      | none => s.regs := by
  unfold State.setBuiltin
  cases builtinReg s.cfg.builtinReg b with
  | none => cases b <;> rfl
  | some n => rfl

/-- The register file after reset (log entry 1). -/
theorem State.reset_nregs : State.reset.nregs = 256 := List.length_replicate

end Sys2Proof.Machine
end

