-- ==== Sys2Proof/Laws/Ops.lean ====
section
/-! SUPPORT. What each shared operation can do, said once: the operand check, the branch, the search for a sequence, its
entry and its end, and the run of registers SETREGS writes. -/

namespace Sys2Proof.Machine

@[simp] theorem State.badOperand_imm (s : State) (v : Word) : s.badOperand (.imm v) = none := rfl

@[simp] theorem State.badOperand_addr (s : State) (a : Word) : s.badOperand (.addr a) = none := rfl

theorem State.badOperand_reg (s : State) (r : Reg) (h : r.toNat < s.nregs) : s.badOperand (.reg r) = none := by
  simp [State.badOperand, h]

@[simp] theorem State.val_reg (s : State) (r : Reg) : s.val (.reg r) = s.reg r.toNat := rfl

@[simp] theorem State.val_imm (s : State) (v : Word) : s.val (.imm v) = v := rfl

@[simp] theorem State.val_addr (s : State) (a : Word) : s.val (.addr a) = a := rfl

/-- With every operand in range the body runs. -/
theorem State.withOperands_ok (s : State) (ops : List Opnd) (body : State)
    (h : ops.findSome? s.badOperand = none) : s.withOperands ops body = body := by
  simp [State.withOperands, h]

/-- With an operand out of range `RegIndex` is raised for the first. -/
theorem State.withOperands_bad (s : State) (ops : List Opnd) (body : State) (n : Nat)
    (h : ops.findSome? s.badOperand = some n) : s.withOperands ops body = s.raise (.regIndex n) := by
  simp [State.withOperands, h]

/-- What holds of the fault and of the body holds of the checked body. -/
theorem State.withOperands_elim (P : State → Prop) (s : State) (ops : List Opnd) (body : State)
    (hbad : ∀ n, P (s.raise (.regIndex n))) (hbody : P body) : P (s.withOperands ops body) := by
  unfold State.withOperands
  split
  · exact hbad _
  · exact hbody

/-- What a branch can do. -/
theorem branchOp_elim (P : State → Prop) (ops : List Opnd) (t : Opnd) (c : Bool) (s : State)
    (hraise : ∀ e, P (s.raise e))
    (htaken : u16 (s.val t) < s.cfg.seqSize → c = true → P { s with pc := u16 (s.val t) })
    (hnext : c = false → P { s with pc := s.npc ops }) : P (branchOp ops t c s) := by
  unfold branchOp
  apply State.withOperands_elim P s ops _ (fun n => hraise _)
  simp only [State.outOfBounds, decide_eq_true_eq]
  split
  · exact hraise _
  · rename_i h1
    cases c with
    | false => exact hnext rfl
    | true =>
      simp only [if_true]
      split
      · exact hraise _
      · rename_i h2
        apply htaken _ rfl
        by_contra hge
        rw [Nat.not_lt] at hge
        cases hb : s.cfg.boundsCheck with
        | always => exact h1 ⟨hb, hge⟩
        | taken => exact h2 ⟨hb, hge⟩

/-- The search for a sequence reads the parameters and sequence space only. -/
theorem State.findFrom_congr (s s' : State) (hc : s'.cfg = s.cfg) (hm : s'.mem = s.mem) (id : SeqId) (fuel a : Nat) :
    s'.findFrom id fuel a = s.findFrom id fuel a := by
  induction fuel generalizing a with
  | zero => rfl
  | succ n ih =>
    have hw : ∀ x, s'.wordAt x = s.wordAt x := fun x => by simp only [State.wordAt, hc, hm]
    simp only [State.findFrom, hw, hc, hm, ih]

theorem State.findSeq_congr (s s' : State) (hc : s'.cfg = s.cfg) (hm : s'.mem = s.mem) (id : SeqId) :
    s'.findSeq id = s.findSeq id := by
  unfold State.findSeq
  rw [State.findFrom_congr s s' hc hm, hc]

/-- What a search that finds a header promises of it. -/
theorem State.findFrom_some (s : State) (id : SeqId) (fuel : Nat) :
    ∀ start a, s.findFrom id fuel start = some a →
      a + headerLength ≤ s.cfg.seqSize ∧ headerOpcode (s.mem.read a) = true ∧
        seqId (s.wordAt (a + 1)) (s.wordAt (a + 3)) = id := by
  induction fuel with
  | zero => intro start a h; simp [State.findFrom] at h
  | succ n ih =>
    intro start a h
    unfold State.findFrom at h
    split at h
    · simp at h
    · split at h
      · simp at h
      · rename_i h1 h2
        split at h
        · rename_i h3
          simp only [Option.some.injEq] at h
          subst h
          exact ⟨by omega, by simpa using h2, h3⟩
        · exact ih _ _ h

/-- What `FindSeq` promises of the header it answers, whatever the search (R38). -/
theorem State.findSeq_some (s : State) (id : SeqId) (a : Nat) (h : s.findSeq id = some a) :
    a + headerLength ≤ s.cfg.seqSize ∧ headerOpcode (s.mem.read a) = true ∧
      seqId (s.wordAt (a + 1)) (s.wordAt (a + 3)) = id :=
  State.findFrom_some s id _ _ a h

/-- What entering a sequence can do. -/
theorem State.startSeq_elim (P : State → Prop) (s : State) (id : SeqId)
    (hnone : s.findSeq id = none → P (s.raise (.seqNotFound id)))
    (hsome : ∀ a, s.findSeq id = some a → P { s with pc := a, delayTime := s.nowTicks, mode := .running }) :
    P (s.startSeq id) := by
  unfold State.startSeq
  split
  · exact hnone ‹_›
  · exact hsome _ ‹_›

/-- Entering a sequence whose header is found (R105). -/
theorem State.startSeq_found (s : State) (id : SeqId) (a : Nat) (h : s.findSeq id = some a) :
    s.startSeq id = { s with pc := a, delayTime := s.nowTicks, mode := .running } := by
  unfold State.startSeq
  split <;> simp_all

/-- Entering a sequence without a header (R105, R169). -/
theorem State.startSeq_missing (s : State) (id : SeqId) (h : s.findSeq id = none) :
    s.startSeq id = s.raise (.seqNotFound id) := by
  unfold State.startSeq
  split <;> simp_all

/-- A normal end with a caller returns to it (R99). -/
theorem State.endNormal_return (s : State) (f : Frame) (fs : List Frame) (h : s.callStack = f :: fs) :
    s.endNormal = { s with callStack := fs, pc := f.ret, delayTime := f.delay, mode := .running } := by
  unfold State.endNormal
  split <;> simp_all

/-- A normal end with no caller and no list goes idle (R99). -/
theorem State.endNormal_idle (s : State) (h : s.callStack = []) (hl : s.seqList = []) :
    s.endNormal = { s with mode := .idle } := by
  unfold State.endNormal
  split <;> simp_all

/-- A normal end with no caller enters the next sequence of the list (R99). -/
theorem State.endNormal_list (s : State) (id : SeqId) (ids : List SeqId) (h : s.callStack = [])
    (hl : s.seqList = id :: ids) : s.endNormal = { s with seqList := ids }.startSeq id := by
  unfold State.endNormal
  split <;> simp_all

/-- What a normal end can do. -/
theorem State.endNormal_elim (P : State → Prop) (s : State)
    (hret : ∀ f fs, s.callStack = f :: fs →
      P { s with callStack := fs, pc := f.ret, delayTime := f.delay, mode := .running })
    (hidle : s.callStack = [] → s.seqList = [] → P { s with mode := .idle })
    (hnext : ∀ id ids a, s.callStack = [] → s.seqList = id :: ids → s.findSeq id = some a →
      P { s with seqList := ids, pc := a, delayTime := s.nowTicks, mode := .running })
    (hlost : ∀ id ids, s.callStack = [] → s.seqList = id :: ids → s.findSeq id = none →
      P { s with seqList := ids, mode := .faulted (.seqNotFound id) }) : P s.endNormal := by
  unfold State.endNormal
  split
  · exact hret _ _ ‹_›
  · rename_i id ids hs hl
    refine State.startSeq_elim P _ id (fun h => ?_) (fun a h => ?_)
    · exact hlost id ids hs hl ((State.findSeq_congr s { s with seqList := ids } rfl rfl id).symm.trans h)
    · exact hnext id ids a hs hl ((State.findSeq_congr s { s with seqList := ids } rfl rfl id).symm.trans h)
  · exact hidle ‹_› ‹_›

@[simp] theorem State.loadRun_length (s : State) (n d h : Nat) (regs : List Word) :
    (s.loadRun n d h regs).length = regs.length := by
  induction n generalizing d h regs with
  | zero => rfl
  | succ n ih => simp [State.loadRun, ih]

/-- The registers after a run of value words is loaded: the words in the run, the old values outside it. -/
theorem State.loadRun_getD (s : State) (n d h : Nat) (regs : List Word) (x : Nat) (hn : n = 0 ∨ d + n ≤ regs.length) :
    (s.loadRun n d h regs).getD x 0 =
      if d ≤ x ∧ x < d + n then s.wordAt (h + 2 * (x - d)) else regs.getD x 0 := by
  induction n generalizing d h regs with
  | zero => simp only [State.loadRun]; rw [if_neg (by omega)]
  | succ n ih =>
    rw [State.loadRun, ih _ _ _ (by simp only [List.length_set]; omega)]
    by_cases hx : x = d
    · subst hx
      rw [if_neg (by omega), if_pos (by omega)]
      simp [show x < regs.length by omega]
    · by_cases hr : d + 1 ≤ x ∧ x < d + 1 + n
      · rw [if_pos hr, if_pos (by omega)]
        congr 1
        omega
      · rw [if_neg hr, if_neg (by omega)]
        simp [List.getElem?_set_ne (fun e => hx e.symm)]

end Sys2Proof.Machine
end

