-- ==== Sys2Proof/Laws/Meanings.lean ====
section
/-! SUPPORT. What each instruction over its operands can do, said once: whatever holds of each of its outcomes holds of the
state it leaves. -/

namespace Sys2Proof.Machine

/-- Writing a result and going on. -/
theorem State.finish_eq (s : State) (rd : Reg) (v : Word) (npc : Nat) :
    s.finish rd v npc = { s with regs := s.regs.set rd.toNat v, pc := npc } := rfl

theorem addOp_elim (P : State → Prop) (rd : Reg) (a b : Opnd) (s : State) (hraise : ∀ c, P (s.raise c))
    (hok : ∀ v, P { s with regs := s.regs.set rd.toNat v, pc := s.npc [.reg rd, a, b] }) : P (addOp rd a b s) :=
  State.withOperands_elim P s _ _ (fun _ => hraise _) (hok _)

theorem subOp_elim (P : State → Prop) (rd : Reg) (a b : Opnd) (s : State) (hraise : ∀ c, P (s.raise c))
    (hok : ∀ v, P { s with regs := s.regs.set rd.toNat v, pc := s.npc [.reg rd, a, b] }) : P (subOp rd a b s) :=
  State.withOperands_elim P s _ _ (fun _ => hraise _) (hok _)

theorem mulOp_elim (P : State → Prop) (rd : Reg) (a b : Opnd) (s : State) (hraise : ∀ c, P (s.raise c))
    (hrefuse : ∀ r, P (s.refuse r))
    (hok : ∀ v w, P { s with regs := (s.regs.set rd.toNat v).set highReg w, pc := s.npc [.reg rd, a, b] }) :
    P (mulOp rd a b s) := by
  refine State.withOperands_elim P s _ _ (fun _ => hraise _) ?_
  split
  · exact hrefuse _
  · exact hok _ _

theorem divOp_elim (P : State → Prop) (rd : Reg) (a b : Opnd) (s : State) (hraise : ∀ c, P (s.raise c))
    (hok : ∀ v, P { s with regs := s.regs.set rd.toNat v, pc := s.npc [.reg rd, a, b] }) : P (divOp rd a b s) := by
  refine State.withOperands_elim P s _ _ (fun _ => hraise _) ?_
  split
  · exact hraise _
  · split
    · exact hraise _
    · exact hok _

theorem incOp_elim (P : State → Prop) (rd : Reg) (s : State) (hraise : ∀ c, P (s.raise c))
    (hok : ∀ v, P { s with regs := s.regs.set rd.toNat v, pc := s.npc [.reg rd] }) : P (incOp rd s) :=
  State.withOperands_elim P s _ _ (fun _ => hraise _) (hok _)

theorem decOp_elim (P : State → Prop) (rd : Reg) (s : State) (hraise : ∀ c, P (s.raise c))
    (hok : ∀ v, P { s with regs := s.regs.set rd.toNat v, pc := s.npc [.reg rd] }) : P (decOp rd s) :=
  State.withOperands_elim P s _ _ (fun _ => hraise _) (hok _)

theorem cllOp_elim (P : State → Prop) (lo hi : Opnd) (s : State) (hraise : ∀ c, P (s.raise c))
    (hok : ∀ a d, s.callStack.length ≠ s.cfg.callDepth → s.findSeq (seqId (s.val lo) (s.val hi)) = some a →
      P { s with callStack := ⟨s.npc [lo, hi], s.delayTime⟩ :: s.callStack, delayTime := d, pc := a }) :
    P (cllOp lo hi s) := by
  refine State.withOperands_elim P s _ _ (fun _ => hraise _) ?_
  simp only []
  split
  · exact hraise _
  · split
    · exact hraise _
    · exact hok _ _ ‹_› ‹_›

theorem sidOp_elim (P : State → Prop) (lo hi next : Opnd) (s : State) (hraise : ∀ c, P (s.raise c))
    (hok : ∀ id, P { s with trace := s.trace ++ [.telemetry id], hkSeqId := id, pc := s.npc [lo, hi, next] }) :
    P (sidOp lo hi next s) :=
  State.withOperands_elim P s _ _ (fun _ => hraise _) (hok _)

theorem vidOp_elim (P : State → Prop) (lo hi next : Opnd) (s : State) (hraise : ∀ c, P (s.raise c))
    (hok : P { s with pc := s.npc [lo, hi, next] }) : P (vidOp lo hi next s) :=
  State.withOperands_elim P s _ _ (fun _ => hraise _) hok

theorem exitOp_elim (P : State → Prop) (v : Opnd) (s : State) (hraise : ∀ c, P (s.raise c))
    (hok : P (s.setBuiltin .rtn (s.val v)).endNormal) : P (exitOp v s) :=
  State.withOperands_elim P s _ _ (fun _ => hraise _) hok

theorem waitOp_elim (P : State → Prop) (n : Opnd) (s : State) (hraise : ∀ c, P (s.raise c))
    (hok : ∀ k, 1 ≤ k → P { s with pc := s.npc [n], mode := .waitTicks k }) : P (waitOp n s) :=
  State.withOperands_elim P s _ _ (fun _ => hraise _) (hok _ (Nat.le_max_right _ _))

theorem delayOp_elim (P : State → Prop) (n : Opnd) (s : State) (hraise : ∀ c, P (s.raise c))
    (hgo : ∀ d, P { s with pc := s.npc [n], delayTime := d })
    (hwait : ∀ t, s.nowTicks < t → P { s with pc := s.npc [n], mode := .waitDelay t }) : P (delayOp n s) := by
  refine State.withOperands_elim P s _ _ (fun _ => hraise _) ?_
  simp only []
  split
  · exact hgo _
  · exact hwait _ (Nat.not_le.mp ‹_›)

theorem timOp_elim (P : State → Prop) (n : Opnd) (s : State) (hraise : ∀ c, P (s.raise c))
    (hgo : P { s with pc := s.npc [n] })
    (hwait : ∀ t, s.lobt < t → P { s with pc := s.npc [n], mode := .waitTime t }) : P (timOp n s) := by
  refine State.withOperands_elim P s _ _ (fun _ => hraise _) ?_
  simp only []
  split
  · exact hgo
  · exact hwait _ (Nat.not_le.mp ‹_›)

theorem setOp_elim (P : State → Prop) (rd : Reg) (v : Opnd) (s : State) (hraise : ∀ c, P (s.raise c))
    (hok : ∀ w, P { s with regs := s.regs.set rd.toNat w, pc := s.npc [.reg rd, v] }) : P (setOp rd v s) :=
  State.withOperands_elim P s _ _ (fun _ => hraise _) (hok _)

theorem setregsOp_elim (P : State → Prop) (d n : Opnd) (s : State) (hraise : ∀ c, P (s.raise c))
    (hok : u16 (s.val n) = 0 ∨ u16 (s.val d) + u16 (s.val n) ≤ s.nregs →
      s.npc [d, n] + 2 * u16 (s.val n) ≤ s.cfg.seqSize →
      P { s with
        regs := s.loadRun (u16 (s.val n)) (u16 (s.val d)) (s.npc [d, n]) s.regs
        pc := s.npc [d, n] + 2 * u16 (s.val n) }) : P (setregsOp d n s) := by
  refine State.withOperands_elim P s _ _ (fun _ => hraise _) ?_
  simp only []
  split
  · exact hraise _
  · split
    · exact hraise _
    · exact hok (by omega) (by omega)

theorem ldaOp_elim (P : State → Prop) (rd : Reg) (a : Opnd) (s : State) (hraise : ∀ c, P (s.raise c))
    (hok : ∀ v, P { s with regs := s.regs.set rd.toNat v, draws := s.draws + 1, pc := s.npc [.reg rd, a] }) :
    P (ldaOp rd a s) := by
  refine State.withOperands_elim P s _ _ (fun _ => hraise _) ?_
  split
  · exact hok _
  · exact hraise _

theorem ldrOp_elim (P : State → Prop) (rd rp : Reg) (s : State) (hraise : ∀ c, P (s.raise c))
    (hrefuse : ∀ r, P (s.refuse r))
    (hok : ∀ v w, P { s with
      regs := (s.regs.set rd.toNat v).set rp.toNat w
      pc := s.npc [.reg rd, .reg rp] }) : P (ldrOp rd rp s) := by
  refine State.withOperands_elim P s _ _ (fun _ => hraise _) ?_
  simp only []
  split
  · exact hrefuse _
  · split
    · exact hraise _
    · exact hok _ _

theorem frameOp_elim (P : State → Prop) (fid : Opnd) (s : State) (hraise : ∀ c, P (s.raise c))
    (hok : ∀ e, P { s with trace := s.trace ++ [e], pc := s.npc [fid], mode := .waitFrame }) : P (frameOp fid s) := by
  refine State.withOperands_elim P s _ _ (fun _ => hraise _) ?_
  simp only []
  split
  · exact hok _
  · exact hraise _

theorem frmpfOp_elim (P : State → Prop) (fid z fo : Opnd) (s : State) (hraise : ∀ c, P (s.raise c))
    (hok : ∀ e, P { s with trace := s.trace ++ [e], pc := s.npc [fid, z, fo], mode := .waitFrame }) :
    P (frmpfOp fid z fo s) := by
  refine State.withOperands_elim P s _ _ (fun _ => hraise _) ?_
  simp only []
  split
  · split
    · exact hok _
    · exact hraise _
  · exact hraise _

theorem sampOp_elim (P : State → Prop) (amp off : Opnd) (s : State) (hraise : ∀ c, P (s.raise c))
    (hok : ∀ e a o, P { s with
      trace := s.trace ++ [e]
      camAmp := a
      camAdcOffset := o
      pc := s.npc [amp, off] }) : P (sampOp amp off s) :=
  State.withOperands_elim P s _ _ (fun _ => hraise _) (hok _ _ _)

theorem sttgOp_elim (P : State → Prop) (lo hi : Opnd) (s : State) (hraise : ∀ c, P (s.raise c))
    (hok : ∀ e w, P { s with
      trace := s.trace ++ [e]
      wedgeRequest := w
      pc := s.npc [lo, hi]
      mode := .waitSlew }) : P (sttgOp lo hi s) := by
  refine State.withOperands_elim P s _ _ (fun _ => hraise _) ?_
  simp only []
  split
  · exact hraise _
  · exact hok _ _

/-- Writing a built-in changes the register it is mapped onto, or one cell of the three. -/
theorem State.setBuiltin_elim (P : State → Prop) (s : State) (b : Builtin) (v : Word)
    (hreg : ∀ n, builtinReg s.cfg.builtinReg b = some n → P { s with regs := s.regs.set n v })
    (hrtn : P { s with rtn := v }) (hnbf : P { s with nbf := v }) (hcbf : P { s with cbf := v }) :
    P (s.setBuiltin b v) := by
  unfold State.setBuiltin
  split
  · exact hreg _ ‹_›
  · cases b
    · exact hrtn
    · exact hnbf
    · exact hcbf

theorem lockbufOp_elim (P : State → Prop) (s : State) (hnone : P { s with pc := s.npc [] })
    (hok : ∀ regs nbf cbf flare, regs.length = s.regs.length →
      (∀ n, builtinReg s.cfg.builtinReg .nbf ≠ some n → builtinReg s.cfg.builtinReg .cbf ≠ some n →
        regs.getD n 0 = s.regs.getD n 0) →
      P { s with
        regs := regs
        nbf := nbf
        cbf := cbf
        flare := flare
        trace := s.trace ++ [.lockBuf]
        pc := s.npc [] }) : P (lockbufOp s) := by
  unfold lockbufOp
  split
  · simp only [State.lockCurrent, State.setBuiltin]
    have hset : ∀ (l : List Word) (m n : Nat) (v : Word), m ≠ n → (l.set m v).getD n 0 = l.getD n 0 := by
      intro l m n v h
      simp [List.getElem?_set_ne h]
    rcases hn : builtinReg s.cfg.builtinReg .nbf with _ | n <;> rcases hc : builtinReg s.cfg.builtinReg .cbf with _ | c <;>
      simp only [State.setReg, State.setBuiltinCell, State.emit, hc]
    · exact hok s.regs _ _ _ rfl (fun _ _ _ => rfl)
    · exact hok _ _ _ _ (by simp) (fun x _ h => hset _ c x _ (fun e => h (e ▸ hc)))
    · exact hok _ _ _ _ (by simp) (fun x h _ => hset _ n x _ (fun e => h (e ▸ hn)))
    · exact hok _ _ _ _ (by simp) (fun x h h' =>
        (hset _ c x _ (fun e => h' (e ▸ hc))).trans (hset _ n x _ (fun e => h (e ▸ hn))))
  · exact hnone

end Sys2Proof.Machine
end

