-- ==== Sys2Proof/Laws/Memory.lean ====
section
/-! SUPPORT. Sequence space: a write keeps the canonical form, reads back, and leaves every other byte alone; the canonical
form makes equal contents equal data. -/

namespace Sys2Proof.Machine

theorem Memory.wfFrom_mono {m : Memory} {lo lo' : Nat} (h : Memory.wfFrom lo m = true) (hl : lo' ≤ lo) :
    Memory.wfFrom lo' m = true := by
  cases m with
  | nil => rfl
  | cons e m =>
    obtain ⟨b, v⟩ := e
    simp only [Memory.wfFrom, Bool.and_eq_true, decide_eq_true_eq] at h ⊢
    exact ⟨⟨hl.trans h.1.1, h.1.2⟩, h.2⟩

theorem Memory.write_wfFrom (m : Memory) (lo a : Nat) (v : Byte) (h : Memory.wfFrom lo m = true) (ha : lo ≤ a) :
    Memory.wfFrom lo (m.write a v) = true := by
  induction m generalizing lo with
  | nil => by_cases hv : v = unlistedByte <;> simp [Memory.write, Memory.wfFrom, hv, ha]
  | cons e m ih =>
    obtain ⟨b, w⟩ := e
    simp only [Memory.wfFrom, Bool.and_eq_true, decide_eq_true_eq] at h
    obtain ⟨⟨hb, hw⟩, hm⟩ := h
    unfold Memory.write
    split
    · rename_i hab
      by_cases hv : v = unlistedByte
      · simp [Memory.wfFrom, hv, hb, hw, hm]
      · simp [Memory.wfFrom, hv, hw, hm, ha]; omega
    · split
      · rename_i _ hab
        subst hab
        by_cases hv : v = unlistedByte
        · simpa [hv] using Memory.wfFrom_mono hm (by omega)
        · simp [Memory.wfFrom, hv, hb, hm]
      · simp only [Memory.wfFrom, Bool.and_eq_true, decide_eq_true_eq]
        exact ⟨⟨hb, hw⟩, ih (b + 1) hm (by omega)⟩

/-- A write keeps the canonical form. -/
theorem Memory.write_wf (m : Memory) (a : Nat) (v : Byte) (h : m.wf = true) : (m.write a v).wf = true :=
  Memory.write_wfFrom m 0 a v h (Nat.zero_le a)

/-- A write of several bytes keeps the canonical form. -/
theorem Memory.writeAll_wf (bs : List Byte) (m : Memory) (a : Nat) (h : m.wf = true) : (m.writeAll a bs).wf = true := by
  induction bs generalizing m a with
  | nil => exact h
  | cons b bs ih => exact ih _ _ (Memory.write_wf m a b h)

/-- Nothing is listed below the address a canonical form starts at. -/
theorem Memory.read_below {m : Memory} {lo a : Nat} (h : Memory.wfFrom lo m = true) (ha : a < lo) :
    m.read a = unlistedByte := by
  induction m generalizing lo with
  | nil => rfl
  | cons e m ih =>
    obtain ⟨b, w⟩ := e
    simp only [Memory.wfFrom, Bool.and_eq_true, decide_eq_true_eq] at h
    unfold Memory.read
    rw [if_neg (by omega)]
    exact ih h.2 (by omega)

theorem Memory.read_write_from {m : Memory} {lo : Nat} (h : Memory.wfFrom lo m = true) (a x : Nat) (v : Byte) :
    (m.write a v).read x = if a = x then v else m.read x := by
  induction m generalizing lo with
  | nil =>
    by_cases hv : v = unlistedByte <;> by_cases hx : a = x <;> simp [Memory.write, Memory.read, hv, hx]
  | cons e m ih =>
    obtain ⟨b, w⟩ := e
    simp only [Memory.wfFrom, Bool.and_eq_true, decide_eq_true_eq] at h
    obtain ⟨⟨_, hw⟩, hm⟩ := h
    unfold Memory.write
    split
    · rename_i hab
      by_cases hv : v = unlistedByte
      · rw [if_pos hv]
        by_cases hx : a = x
        · subst hx
          rw [if_pos rfl, Memory.read, if_neg (by omega), Memory.read_below hm (by omega), hv]
        · rw [if_neg hx]
      · rw [if_neg hv, Memory.read]
    · split
      · rename_i _ hab
        subst hab
        by_cases hv : v = unlistedByte
        · rw [if_pos hv]
          by_cases hx : a = x
          · subst hx
            rw [if_pos rfl, Memory.read_below hm (by omega), hv]
          · rw [if_neg hx, Memory.read, if_neg hx]
        · rw [if_neg hv, Memory.read]
          by_cases hx : a = x
          · rw [if_pos hx, if_pos hx]
          · rw [if_neg hx, if_neg hx, Memory.read, if_neg hx]
      · rename_i h1 h2
        rw [Memory.read, ih hm]
        by_cases hb : b = x
        · rw [if_pos hb, if_neg (by omega), Memory.read, if_pos hb]
        · rw [if_neg hb, Memory.read, if_neg hb]

/-- A byte reads as what was last stored there; a store leaves every other byte alone. -/
theorem Memory.read_write {m : Memory} (h : m.wf = true) (a x : Nat) (v : Byte) :
    (m.write a v).read x = if a = x then v else m.read x :=
  Memory.read_write_from h a x v

/-- The bytes a run of stores leaves. -/
theorem Memory.read_writeAll (bs : List Byte) {m : Memory} (h : m.wf = true) (a x : Nat) :
    (m.writeAll a bs).read x = if a ≤ x ∧ x < a + bs.length then bs.getD (x - a) 0 else m.read x := by
  induction bs generalizing m a with
  | nil => simp only [Memory.writeAll, List.length_nil]; rw [if_neg (by omega)]
  | cons b bs ih =>
    rw [Memory.writeAll, ih (Memory.write_wf m a b h), Memory.read_write h]
    simp only [List.length_cons]
    by_cases hx : x = a
    · subst hx
      rw [if_neg (by omega), if_pos rfl, if_pos (by omega)]
      simp
    · by_cases hr : a + 1 ≤ x ∧ x < a + 1 + bs.length
      · rw [if_pos hr, if_pos (by omega)]
        obtain ⟨k, rfl⟩ : ∃ k, x = a + (k + 1) := ⟨x - a - 1, by omega⟩
        simp [show a + (k + 1) - (a + 1) = k by omega, show a + (k + 1) - a = k + 1 by omega]
      · rw [if_neg hr, if_neg (fun e => hx e.symm), if_neg (by omega)]

/-- Two memories in canonical form with the same bytes everywhere are the same data. -/
theorem Memory.eq_of_read {m m' : Memory} {lo : Nat} (h : Memory.wfFrom lo m = true) (h' : Memory.wfFrom lo m' = true)
    (hr : ∀ a, m.read a = m'.read a) : m = m' := by
  induction m generalizing m' lo with
  | nil =>
    cases m' with
    | nil => rfl
    | cons e m' =>
      obtain ⟨b, v⟩ := e
      simp only [Memory.wfFrom, Bool.and_eq_true, decide_eq_true_eq] at h'
      have := hr b
      simp only [Memory.read, if_true] at this
      exact absurd this.symm h'.1.2
  | cons e m ih =>
    obtain ⟨b, v⟩ := e
    simp only [Memory.wfFrom, Bool.and_eq_true, decide_eq_true_eq] at h
    cases m' with
    | nil =>
      have := hr b
      simp only [Memory.read, if_true] at this
      exact absurd this h.1.2
    | cons e' m' =>
      obtain ⟨b', v'⟩ := e'
      simp only [Memory.wfFrom, Bool.and_eq_true, decide_eq_true_eq] at h'
      have hbb : b = b' := by
        rcases Nat.lt_trichotomy b b' with hlt | heq | hgt
        · have := hr b
          rw [Memory.read, if_pos rfl, Memory.read, if_neg (by omega), Memory.read_below h'.2 (by omega)] at this
          exact absurd this h.1.2
        · exact heq
        · have := hr b'
          rw [Memory.read, if_neg (by omega), Memory.read_below h.2 (by omega), Memory.read, if_pos rfl] at this
          exact absurd this.symm h'.1.2
      subst hbb
      have hv : v = v' := by simpa [Memory.read] using hr b
      subst hv
      rw [ih h.2 h'.2 ?_]
      intro a
      by_cases hab : a < b + 1
      · rw [Memory.read_below h.2 hab, Memory.read_below h'.2 hab]
      · have := hr a
        rwa [Memory.read, if_neg (by omega), Memory.read, if_neg (by omega)] at this

/-- Reset's sequence space is in canonical form. -/
theorem State.reset_mem_wf : State.reset.mem.wf = true := rfl

end Sys2Proof.Machine
end

