-- ==== Sys2Proof/Laws/PerInstr.lean ====
section
/-! SUPPORT. Facts about an instruction as data, one lemma per constructor: the bytes of its encoding are as many as its
length, and no encoding is longer than the longest instruction (spec/30_encoding.md R54). -/

namespace Sys2Proof.Laws.EncodedLength

/-- The encoding of the instruction has the instruction's length, which is at most the longest instruction's. -/
def Statement (i : Instr) : Prop := ∀ c : Config, (encode c i).length = i.length ∧ i.length ≤ maxLength

theorem addRRR (op1 : Reg) (op2 : Reg) (op3 : Reg) : Statement (.addRRR op1 op2 op3) := fun _ => ⟨rfl, by simp [Instr.length, Instr.operands, operandBytes, Opnd.size, maxLength]⟩

theorem addRRI (op1 : Reg) (op2 : Reg) (op3 : Word) : Statement (.addRRI op1 op2 op3) := fun _ => ⟨rfl, by simp [Instr.length, Instr.operands, operandBytes, Opnd.size, maxLength]⟩

theorem addRIR (op1 : Reg) (op2 : Word) (op3 : Reg) : Statement (.addRIR op1 op2 op3) := fun _ => ⟨rfl, by simp [Instr.length, Instr.operands, operandBytes, Opnd.size, maxLength]⟩

theorem addRII (op1 : Reg) (op2 : Word) (op3 : Word) : Statement (.addRII op1 op2 op3) := fun _ => ⟨rfl, by simp [Instr.length, Instr.operands, operandBytes, Opnd.size, maxLength]⟩

theorem subRRR (op1 : Reg) (op2 : Reg) (op3 : Reg) : Statement (.subRRR op1 op2 op3) := fun _ => ⟨rfl, by simp [Instr.length, Instr.operands, operandBytes, Opnd.size, maxLength]⟩

theorem subRRI (op1 : Reg) (op2 : Reg) (op3 : Word) : Statement (.subRRI op1 op2 op3) := fun _ => ⟨rfl, by simp [Instr.length, Instr.operands, operandBytes, Opnd.size, maxLength]⟩

theorem subRIR (op1 : Reg) (op2 : Word) (op3 : Reg) : Statement (.subRIR op1 op2 op3) := fun _ => ⟨rfl, by simp [Instr.length, Instr.operands, operandBytes, Opnd.size, maxLength]⟩

theorem subRII (op1 : Reg) (op2 : Word) (op3 : Word) : Statement (.subRII op1 op2 op3) := fun _ => ⟨rfl, by simp [Instr.length, Instr.operands, operandBytes, Opnd.size, maxLength]⟩

theorem mulRRR (op1 : Reg) (op2 : Reg) (op3 : Reg) : Statement (.mulRRR op1 op2 op3) := fun _ => ⟨rfl, by simp [Instr.length, Instr.operands, operandBytes, Opnd.size, maxLength]⟩

theorem mulRRI (op1 : Reg) (op2 : Reg) (op3 : Word) : Statement (.mulRRI op1 op2 op3) := fun _ => ⟨rfl, by simp [Instr.length, Instr.operands, operandBytes, Opnd.size, maxLength]⟩

theorem mulRIR (op1 : Reg) (op2 : Word) (op3 : Reg) : Statement (.mulRIR op1 op2 op3) := fun _ => ⟨rfl, by simp [Instr.length, Instr.operands, operandBytes, Opnd.size, maxLength]⟩

theorem mulRII (op1 : Reg) (op2 : Word) (op3 : Word) : Statement (.mulRII op1 op2 op3) := fun _ => ⟨rfl, by simp [Instr.length, Instr.operands, operandBytes, Opnd.size, maxLength]⟩

theorem divRRR (op1 : Reg) (op2 : Reg) (op3 : Reg) : Statement (.divRRR op1 op2 op3) := fun _ => ⟨rfl, by simp [Instr.length, Instr.operands, operandBytes, Opnd.size, maxLength]⟩

theorem divRRI (op1 : Reg) (op2 : Reg) (op3 : Word) : Statement (.divRRI op1 op2 op3) := fun _ => ⟨rfl, by simp [Instr.length, Instr.operands, operandBytes, Opnd.size, maxLength]⟩

theorem divRIR (op1 : Reg) (op2 : Word) (op3 : Reg) : Statement (.divRIR op1 op2 op3) := fun _ => ⟨rfl, by simp [Instr.length, Instr.operands, operandBytes, Opnd.size, maxLength]⟩

theorem divRII (op1 : Reg) (op2 : Word) (op3 : Word) : Statement (.divRII op1 op2 op3) := fun _ => ⟨rfl, by simp [Instr.length, Instr.operands, operandBytes, Opnd.size, maxLength]⟩

theorem incR (op1 : Reg) : Statement (.incR op1) := fun _ => ⟨rfl, by simp [Instr.length, Instr.operands, operandBytes, Opnd.size, maxLength]⟩

theorem decR (op1 : Reg) : Statement (.decR op1) := fun _ => ⟨rfl, by simp [Instr.length, Instr.operands, operandBytes, Opnd.size, maxLength]⟩

theorem beqRRR (op1 : Reg) (op2 : Reg) (op3 : Reg) : Statement (.beqRRR op1 op2 op3) := fun _ => ⟨rfl, by simp [Instr.length, Instr.operands, operandBytes, Opnd.size, maxLength]⟩

theorem beqRRI (op1 : Reg) (op2 : Reg) (op3 : Word) : Statement (.beqRRI op1 op2 op3) := fun _ => ⟨rfl, by simp [Instr.length, Instr.operands, operandBytes, Opnd.size, maxLength]⟩

theorem beqARR (op1 : Word) (op2 : Reg) (op3 : Reg) : Statement (.beqARR op1 op2 op3) := fun _ => ⟨rfl, by simp [Instr.length, Instr.operands, operandBytes, Opnd.size, maxLength]⟩

theorem beqARI (op1 : Word) (op2 : Reg) (op3 : Word) : Statement (.beqARI op1 op2 op3) := fun _ => ⟨rfl, by simp [Instr.length, Instr.operands, operandBytes, Opnd.size, maxLength]⟩

theorem bneRRR (op1 : Reg) (op2 : Reg) (op3 : Reg) : Statement (.bneRRR op1 op2 op3) := fun _ => ⟨rfl, by simp [Instr.length, Instr.operands, operandBytes, Opnd.size, maxLength]⟩

theorem bneRRI (op1 : Reg) (op2 : Reg) (op3 : Word) : Statement (.bneRRI op1 op2 op3) := fun _ => ⟨rfl, by simp [Instr.length, Instr.operands, operandBytes, Opnd.size, maxLength]⟩

theorem bneARR (op1 : Word) (op2 : Reg) (op3 : Reg) : Statement (.bneARR op1 op2 op3) := fun _ => ⟨rfl, by simp [Instr.length, Instr.operands, operandBytes, Opnd.size, maxLength]⟩

theorem bneARI (op1 : Word) (op2 : Reg) (op3 : Word) : Statement (.bneARI op1 op2 op3) := fun _ => ⟨rfl, by simp [Instr.length, Instr.operands, operandBytes, Opnd.size, maxLength]⟩

theorem bltRRR (op1 : Reg) (op2 : Reg) (op3 : Reg) : Statement (.bltRRR op1 op2 op3) := fun _ => ⟨rfl, by simp [Instr.length, Instr.operands, operandBytes, Opnd.size, maxLength]⟩

theorem bltRRI (op1 : Reg) (op2 : Reg) (op3 : Word) : Statement (.bltRRI op1 op2 op3) := fun _ => ⟨rfl, by simp [Instr.length, Instr.operands, operandBytes, Opnd.size, maxLength]⟩

theorem bltARR (op1 : Word) (op2 : Reg) (op3 : Reg) : Statement (.bltARR op1 op2 op3) := fun _ => ⟨rfl, by simp [Instr.length, Instr.operands, operandBytes, Opnd.size, maxLength]⟩

theorem bltARI (op1 : Word) (op2 : Reg) (op3 : Word) : Statement (.bltARI op1 op2 op3) := fun _ => ⟨rfl, by simp [Instr.length, Instr.operands, operandBytes, Opnd.size, maxLength]⟩

theorem bleRRR (op1 : Reg) (op2 : Reg) (op3 : Reg) : Statement (.bleRRR op1 op2 op3) := fun _ => ⟨rfl, by simp [Instr.length, Instr.operands, operandBytes, Opnd.size, maxLength]⟩

theorem bleRRI (op1 : Reg) (op2 : Reg) (op3 : Word) : Statement (.bleRRI op1 op2 op3) := fun _ => ⟨rfl, by simp [Instr.length, Instr.operands, operandBytes, Opnd.size, maxLength]⟩

theorem bleARR (op1 : Word) (op2 : Reg) (op3 : Reg) : Statement (.bleARR op1 op2 op3) := fun _ => ⟨rfl, by simp [Instr.length, Instr.operands, operandBytes, Opnd.size, maxLength]⟩

theorem bleARI (op1 : Word) (op2 : Reg) (op3 : Word) : Statement (.bleARI op1 op2 op3) := fun _ => ⟨rfl, by simp [Instr.length, Instr.operands, operandBytes, Opnd.size, maxLength]⟩

theorem bgtRRR (op1 : Reg) (op2 : Reg) (op3 : Reg) : Statement (.bgtRRR op1 op2 op3) := fun _ => ⟨rfl, by simp [Instr.length, Instr.operands, operandBytes, Opnd.size, maxLength]⟩

theorem bgtRRI (op1 : Reg) (op2 : Reg) (op3 : Word) : Statement (.bgtRRI op1 op2 op3) := fun _ => ⟨rfl, by simp [Instr.length, Instr.operands, operandBytes, Opnd.size, maxLength]⟩

theorem bgtARR (op1 : Word) (op2 : Reg) (op3 : Reg) : Statement (.bgtARR op1 op2 op3) := fun _ => ⟨rfl, by simp [Instr.length, Instr.operands, operandBytes, Opnd.size, maxLength]⟩

theorem bgtARI (op1 : Word) (op2 : Reg) (op3 : Word) : Statement (.bgtARI op1 op2 op3) := fun _ => ⟨rfl, by simp [Instr.length, Instr.operands, operandBytes, Opnd.size, maxLength]⟩

theorem bgeRRR (op1 : Reg) (op2 : Reg) (op3 : Reg) : Statement (.bgeRRR op1 op2 op3) := fun _ => ⟨rfl, by simp [Instr.length, Instr.operands, operandBytes, Opnd.size, maxLength]⟩

theorem bgeRRI (op1 : Reg) (op2 : Reg) (op3 : Word) : Statement (.bgeRRI op1 op2 op3) := fun _ => ⟨rfl, by simp [Instr.length, Instr.operands, operandBytes, Opnd.size, maxLength]⟩

theorem bgeARR (op1 : Word) (op2 : Reg) (op3 : Reg) : Statement (.bgeARR op1 op2 op3) := fun _ => ⟨rfl, by simp [Instr.length, Instr.operands, operandBytes, Opnd.size, maxLength]⟩

theorem bgeARI (op1 : Word) (op2 : Reg) (op3 : Word) : Statement (.bgeARI op1 op2 op3) := fun _ => ⟨rfl, by simp [Instr.length, Instr.operands, operandBytes, Opnd.size, maxLength]⟩

theorem bnzRR (op1 : Reg) (op2 : Reg) : Statement (.bnzRR op1 op2) := fun _ => ⟨rfl, by simp [Instr.length, Instr.operands, operandBytes, Opnd.size, maxLength]⟩

theorem bnzAR (op1 : Word) (op2 : Reg) : Statement (.bnzAR op1 op2) := fun _ => ⟨rfl, by simp [Instr.length, Instr.operands, operandBytes, Opnd.size, maxLength]⟩

theorem bzRR (op1 : Reg) (op2 : Reg) : Statement (.bzRR op1 op2) := fun _ => ⟨rfl, by simp [Instr.length, Instr.operands, operandBytes, Opnd.size, maxLength]⟩

theorem bzAR (op1 : Word) (op2 : Reg) : Statement (.bzAR op1 op2) := fun _ => ⟨rfl, by simp [Instr.length, Instr.operands, operandBytes, Opnd.size, maxLength]⟩

theorem ubrR (op1 : Reg) : Statement (.ubrR op1) := fun _ => ⟨rfl, by simp [Instr.length, Instr.operands, operandBytes, Opnd.size, maxLength]⟩

theorem ubrA (op1 : Word) : Statement (.ubrA op1) := fun _ => ⟨rfl, by simp [Instr.length, Instr.operands, operandBytes, Opnd.size, maxLength]⟩

theorem cllRR (op1 : Reg) (op2 : Reg) : Statement (.cllRR op1 op2) := fun _ => ⟨rfl, by simp [Instr.length, Instr.operands, operandBytes, Opnd.size, maxLength]⟩

theorem cllRI (op1 : Reg) (op2 : Word) : Statement (.cllRI op1 op2) := fun _ => ⟨rfl, by simp [Instr.length, Instr.operands, operandBytes, Opnd.size, maxLength]⟩

theorem cllIR (op1 : Word) (op2 : Reg) : Statement (.cllIR op1 op2) := fun _ => ⟨rfl, by simp [Instr.length, Instr.operands, operandBytes, Opnd.size, maxLength]⟩

theorem cllII (op1 : Word) (op2 : Word) : Statement (.cllII op1 op2) := fun _ => ⟨rfl, by simp [Instr.length, Instr.operands, operandBytes, Opnd.size, maxLength]⟩

theorem sidRRI (op1 : Reg) (op2 : Reg) (op3 : Word) : Statement (.sidRRI op1 op2 op3) := fun _ => ⟨rfl, by simp [Instr.length, Instr.operands, operandBytes, Opnd.size, maxLength]⟩

theorem sidRII (op1 : Reg) (op2 : Word) (op3 : Word) : Statement (.sidRII op1 op2 op3) := fun _ => ⟨rfl, by simp [Instr.length, Instr.operands, operandBytes, Opnd.size, maxLength]⟩

theorem sidIRI (op1 : Word) (op2 : Reg) (op3 : Word) : Statement (.sidIRI op1 op2 op3) := fun _ => ⟨rfl, by simp [Instr.length, Instr.operands, operandBytes, Opnd.size, maxLength]⟩

theorem sidIII (op1 : Word) (op2 : Word) (op3 : Word) : Statement (.sidIII op1 op2 op3) := fun _ => ⟨rfl, by simp [Instr.length, Instr.operands, operandBytes, Opnd.size, maxLength]⟩

theorem vidIII (op1 : Word) (op2 : Word) (op3 : Word) : Statement (.vidIII op1 op2 op3) := fun _ => ⟨rfl, by simp [Instr.length, Instr.operands, operandBytes, Opnd.size, maxLength]⟩

theorem ret : Statement .ret := fun _ => ⟨rfl, by simp [Instr.length, Instr.operands, operandBytes, maxLength]⟩

theorem exitR (op1 : Reg) : Statement (.exitR op1) := fun _ => ⟨rfl, by simp [Instr.length, Instr.operands, operandBytes, Opnd.size, maxLength]⟩

theorem exitI (op1 : Word) : Statement (.exitI op1) := fun _ => ⟨rfl, by simp [Instr.length, Instr.operands, operandBytes, Opnd.size, maxLength]⟩

theorem term : Statement .term := fun _ => ⟨rfl, by simp [Instr.length, Instr.operands, operandBytes, maxLength]⟩

theorem abort : Statement .abort := fun _ => ⟨rfl, by simp [Instr.length, Instr.operands, operandBytes, maxLength]⟩

theorem waitR (op1 : Reg) : Statement (.waitR op1) := fun _ => ⟨rfl, by simp [Instr.length, Instr.operands, operandBytes, Opnd.size, maxLength]⟩

theorem waitI (op1 : Word) : Statement (.waitI op1) := fun _ => ⟨rfl, by simp [Instr.length, Instr.operands, operandBytes, Opnd.size, maxLength]⟩

theorem delayR (op1 : Reg) : Statement (.delayR op1) := fun _ => ⟨rfl, by simp [Instr.length, Instr.operands, operandBytes, Opnd.size, maxLength]⟩

theorem delayI (op1 : Word) : Statement (.delayI op1) := fun _ => ⟨rfl, by simp [Instr.length, Instr.operands, operandBytes, Opnd.size, maxLength]⟩

theorem srt : Statement .srt := fun _ => ⟨rfl, by simp [Instr.length, Instr.operands, operandBytes, maxLength]⟩

theorem timR (op1 : Reg) : Statement (.timR op1) := fun _ => ⟨rfl, by simp [Instr.length, Instr.operands, operandBytes, Opnd.size, maxLength]⟩

theorem timI (op1 : Word) : Statement (.timI op1) := fun _ => ⟨rfl, by simp [Instr.length, Instr.operands, operandBytes, Opnd.size, maxLength]⟩

theorem noop : Statement .noop := fun _ => ⟨rfl, by simp [Instr.length, Instr.operands, operandBytes, maxLength]⟩

theorem setRR (op1 : Reg) (op2 : Reg) : Statement (.setRR op1 op2) := fun _ => ⟨rfl, by simp [Instr.length, Instr.operands, operandBytes, Opnd.size, maxLength]⟩

theorem setRI (op1 : Reg) (op2 : Word) : Statement (.setRI op1 op2) := fun _ => ⟨rfl, by simp [Instr.length, Instr.operands, operandBytes, Opnd.size, maxLength]⟩

theorem setregsRR (op1 : Reg) (op2 : Reg) : Statement (.setregsRR op1 op2) := fun _ => ⟨rfl, by simp [Instr.length, Instr.operands, operandBytes, Opnd.size, maxLength]⟩

theorem setregsRI (op1 : Reg) (op2 : Word) : Statement (.setregsRI op1 op2) := fun _ => ⟨rfl, by simp [Instr.length, Instr.operands, operandBytes, Opnd.size, maxLength]⟩

theorem setregsIR (op1 : Word) (op2 : Reg) : Statement (.setregsIR op1 op2) := fun _ => ⟨rfl, by simp [Instr.length, Instr.operands, operandBytes, Opnd.size, maxLength]⟩

theorem setregsII (op1 : Word) (op2 : Word) : Statement (.setregsII op1 op2) := fun _ => ⟨rfl, by simp [Instr.length, Instr.operands, operandBytes, Opnd.size, maxLength]⟩

theorem ldaRR (op1 : Reg) (op2 : Reg) : Statement (.ldaRR op1 op2) := fun _ => ⟨rfl, by simp [Instr.length, Instr.operands, operandBytes, Opnd.size, maxLength]⟩

theorem ldaRI (op1 : Reg) (op2 : Word) : Statement (.ldaRI op1 op2) := fun _ => ⟨rfl, by simp [Instr.length, Instr.operands, operandBytes, Opnd.size, maxLength]⟩

theorem ldrRR (op1 : Reg) (op2 : Reg) : Statement (.ldrRR op1 op2) := fun _ => ⟨rfl, by simp [Instr.length, Instr.operands, operandBytes, Opnd.size, maxLength]⟩

theorem frameR (op1 : Reg) : Statement (.frameR op1) := fun _ => ⟨rfl, by simp [Instr.length, Instr.operands, operandBytes, Opnd.size, maxLength]⟩

theorem frameI (op1 : Word) : Statement (.frameI op1) := fun _ => ⟨rfl, by simp [Instr.length, Instr.operands, operandBytes, Opnd.size, maxLength]⟩

theorem frmpfRRR (op1 : Reg) (op2 : Reg) (op3 : Reg) : Statement (.frmpfRRR op1 op2 op3) := fun _ => ⟨rfl, by simp [Instr.length, Instr.operands, operandBytes, Opnd.size, maxLength]⟩

theorem frmpfRRI (op1 : Reg) (op2 : Reg) (op3 : Word) : Statement (.frmpfRRI op1 op2 op3) := fun _ => ⟨rfl, by simp [Instr.length, Instr.operands, operandBytes, Opnd.size, maxLength]⟩

theorem frmpfRIR (op1 : Reg) (op2 : Word) (op3 : Reg) : Statement (.frmpfRIR op1 op2 op3) := fun _ => ⟨rfl, by simp [Instr.length, Instr.operands, operandBytes, Opnd.size, maxLength]⟩

theorem frmpfRII (op1 : Reg) (op2 : Word) (op3 : Word) : Statement (.frmpfRII op1 op2 op3) := fun _ => ⟨rfl, by simp [Instr.length, Instr.operands, operandBytes, Opnd.size, maxLength]⟩

theorem frmpfIRR (op1 : Word) (op2 : Reg) (op3 : Reg) : Statement (.frmpfIRR op1 op2 op3) := fun _ => ⟨rfl, by simp [Instr.length, Instr.operands, operandBytes, Opnd.size, maxLength]⟩

theorem frmpfIRI (op1 : Word) (op2 : Reg) (op3 : Word) : Statement (.frmpfIRI op1 op2 op3) := fun _ => ⟨rfl, by simp [Instr.length, Instr.operands, operandBytes, Opnd.size, maxLength]⟩

theorem frmpfIIR (op1 : Word) (op2 : Word) (op3 : Reg) : Statement (.frmpfIIR op1 op2 op3) := fun _ => ⟨rfl, by simp [Instr.length, Instr.operands, operandBytes, Opnd.size, maxLength]⟩

theorem frmpfIII (op1 : Word) (op2 : Word) (op3 : Word) : Statement (.frmpfIII op1 op2 op3) := fun _ => ⟨rfl, by simp [Instr.length, Instr.operands, operandBytes, Opnd.size, maxLength]⟩

theorem sampRR (op1 : Reg) (op2 : Reg) : Statement (.sampRR op1 op2) := fun _ => ⟨rfl, by simp [Instr.length, Instr.operands, operandBytes, Opnd.size, maxLength]⟩

theorem sampRI (op1 : Reg) (op2 : Word) : Statement (.sampRI op1 op2) := fun _ => ⟨rfl, by simp [Instr.length, Instr.operands, operandBytes, Opnd.size, maxLength]⟩

theorem sampIR (op1 : Word) (op2 : Reg) : Statement (.sampIR op1 op2) := fun _ => ⟨rfl, by simp [Instr.length, Instr.operands, operandBytes, Opnd.size, maxLength]⟩

theorem sampII (op1 : Word) (op2 : Word) : Statement (.sampII op1 op2) := fun _ => ⟨rfl, by simp [Instr.length, Instr.operands, operandBytes, Opnd.size, maxLength]⟩

theorem sttgRR (op1 : Reg) (op2 : Reg) : Statement (.sttgRR op1 op2) := fun _ => ⟨rfl, by simp [Instr.length, Instr.operands, operandBytes, Opnd.size, maxLength]⟩

theorem sttgRI (op1 : Reg) (op2 : Word) : Statement (.sttgRI op1 op2) := fun _ => ⟨rfl, by simp [Instr.length, Instr.operands, operandBytes, Opnd.size, maxLength]⟩

theorem sttgIR (op1 : Word) (op2 : Reg) : Statement (.sttgIR op1 op2) := fun _ => ⟨rfl, by simp [Instr.length, Instr.operands, operandBytes, Opnd.size, maxLength]⟩

theorem sttgII (op1 : Word) (op2 : Word) : Statement (.sttgII op1 op2) := fun _ => ⟨rfl, by simp [Instr.length, Instr.operands, operandBytes, Opnd.size, maxLength]⟩

theorem lockbuf : Statement .lockbuf := fun _ => ⟨rfl, by simp [Instr.length, Instr.operands, operandBytes, maxLength]⟩

theorem resetaec : Statement .resetaec := fun _ => ⟨rfl, by simp [Instr.length, Instr.operands, operandBytes, maxLength]⟩

theorem startave : Statement .startave := fun _ => ⟨rfl, by simp [Instr.length, Instr.operands, operandBytes, maxLength]⟩

theorem updimax : Statement .updimax := fun _ => ⟨rfl, by simp [Instr.length, Instr.operands, operandBytes, maxLength]⟩

end Sys2Proof.Laws.EncodedLength
end

