-- ==== Sys2Proof/Laws/Step.lean ====
section
/-! SUPPORT. What one step of the machine can be, said once. -/

namespace Sys2Proof.Machine

/-- The state a step acts on: the schedule without the action taken. -/
def State.popped (s : State) : State := { s with schedule := s.schedule.tail }

@[simp] theorem State.popped_mode (s : State) : s.popped.mode = s.mode := rfl

theorem State.popped_of_nil (s : State) (h : s.schedule = []) : s.popped = s := by
  cases s; simp_all [State.popped]

/-- The fetch does not read the schedule. -/
theorem State.popped_fetch (s : State) : s.popped.fetch = s.fetch := rfl

/-- A step with a schedule takes its first action. -/
theorem step_scheduled (s : State) (a : Action) (l : List Action) (h : s.schedule = a :: l) :
    step s = act a { s with schedule := l } := by
  unfold step scheduledStep
  split <;> simp_all

/-- A step without a schedule is the default one. -/
theorem step_default (s : State) (h : s.schedule = []) : step s = defaultStep s := by
  unfold step scheduledStep
  split <;> simp_all

/-- A running machine without a schedule executes. -/
theorem step_running (s : State) (h : s.schedule = []) (hm : s.mode = .running) : step s = execStep s := by
  rw [step_default s h, defaultStep, if_pos hm]

/-- An action other than execution is its event where that is enabled. -/
theorem act_event (a : Action) (s : State) (h : a ≠ .exec) :
    act a s = match s.event a with
      | some t => .next t
      | none => .fault (.notEnabled a) := by
  cases a <;> first | rfl | exact absurd rfl h

/-- Execution of a fetched instruction is its meaning. -/
theorem execStep_ok (s : State) (i : Instr) (h : s.fetch = .ok i) : execStep s = exec i s := by
  rw [execStep, h]

/-- Execution where the fetch fails records why. -/
theorem execStep_error (s : State) (e : Rejection) (h : s.fetch = .error e) : execStep s = .next (s.fetchFailed e) := by
  rw [execStep, h]

/-- A step that answers a next state executed the instruction at `pc`, or took an enabled event: the one scheduled, or the
start of a pending command where the schedule is empty. -/
theorem step_cases (s t : State) (h : step s = .next t) :
    (s.mode = .running ∧ execStep s.popped = .next t ∧ (s.schedule = [] ∨ ∃ l, s.schedule = .exec :: l)) ∨
    ∃ a, a ≠ .exec ∧ s.popped.event a = some t ∧
      ((∃ l, s.schedule = a :: l) ∨ (s.schedule = [] ∧ a = .startPending ∧ s.mode ≠ .running)) := by
  have hact : ∀ a, act a s.popped = .next t → a ≠ .exec → s.popped.event a = some t := by
    intro a ha hne
    cases a <;> simp only [act] at ha <;> first
      | exact absurd rfl hne
      | (split at ha
         · rename_i u hu; cases ha; exact hu
         · cases ha)
  unfold step scheduledStep at h
  split at h
  · rename_i a rest hs
    have hp : ({ s with schedule := rest } : State) = s.popped := by simp [State.popped, hs]
    rw [hp] at h
    by_cases hne : a = .exec
    · subst hne
      simp only [act] at h
      split at h
      · exact .inl ⟨‹_›, h, .inr ⟨rest, hs⟩⟩
      · cases h
    · exact .inr ⟨a, hne, hact a h hne, .inl ⟨rest, hs⟩⟩
  · rename_i hs
    unfold defaultStep at h
    rw [← State.popped_of_nil s hs] at h
    split at h
    · exact .inl ⟨‹_›, h, .inl hs⟩
    · split at h
      · exact .inr ⟨.startPending, by simp, hact _ h (by simp), .inr ⟨hs, rfl, ‹_›⟩⟩
      · cases h

/-- Executing the instruction at `pc` runs the fetched instruction's meaning or records why there is none. -/
theorem execStep_cases (s t : State) (h : execStep s = .next t) :
    (∃ i, s.fetch = .ok i ∧ exec i s = .next t) ∨ ∃ e, s.fetch = .error e ∧ t = s.fetchFailed e := by
  unfold execStep at h
  split at h
  · exact .inl ⟨_, ‹_›, h⟩
  · cases h; exact .inr ⟨_, ‹_›, rfl⟩

end Sys2Proof.Machine
end

