-- ==== Sys2Proof/Tests/Slice0.lean ====
section
/-! SUPPORT. The model's own tests: what the checks of WellFormed refuse, words of the spec's encodings and what they decode
to, the spec's vectors (spec/95_test_vectors.md) for one step each, and for each obligation with hypotheses a state and
operands that meet them. -/

set_option Elab.async false

namespace Sys2Proof.Tests

open Sys2Proof.Machine Sys2Proof.Claims

/-! ### The checks refuse ill-formed terms -/

theorem test_wf_setregs_not_encoded :
    (Instr.setregsRR 1 2).wellFormed { Config.default with opc83 := .sttg } = false := rfl

theorem test_wf_setregs_refused :
    (Instr.setregsII 1 2).wellFormed { Config.default with opc83 := .refuse } = false := rfl

theorem test_wf_sttg_not_encoded : (Instr.sttgII 1 2).wellFormed Config.default = false := rfl

theorem test_wf_ubr_register_not_encoded :
    (Instr.ubrR 5).wellFormed { Config.default with ubrC2 := .addr } = false := rfl

theorem test_wf_empty_sequence_space : { Config.default with seqSize := 0 }.wf = false := by decide

theorem test_wf_sequence_space_too_large : { Config.default with seqSize := 65537 }.wf = false := by decide

theorem test_wf_no_call_stack : { Config.default with callDepth := 0 }.wf = false := by decide

theorem test_wf_call_stack_too_deep : { Config.default with callDepth := 11 }.wf = false := by decide

theorem test_wf_sttg_opcode_assigned :
    { Config.default with sttgOpcodes := some ⟨0x03, 0x97, 0x9B, 0x9F⟩ }.wf = false := by decide

theorem test_wf_sttg_opcode_twice :
    { Config.default with sttgOpcodes := some ⟨0x93, 0x93, 0x9B, 0x9F⟩ }.wf = false := by decide

theorem test_wf_memory_out_of_order : Memory.wf [(5, 1), (3, 1)] = false := rfl

theorem test_wf_memory_lists_unlisted_byte : Memory.wf [(5, unlistedByte)] = false := rfl

/-! ### Every constructor's decoding, by words written out from R54 and R58 -/

/-- The bytes decode under the default parameters to the instruction, and no byte is left. -/
def Decodes (bytes : List Byte) (i : Instr) : Prop := decode Config.default bytes = .ok (i, [])

theorem test_decode_beq :
    Decodes [0x00, 0x0A, 0xC7, 0x1E] (.beqRRR 0x0A 0xC7 0x1E) ∧
    Decodes [0x02, 0x0A, 0xC7, 0x01, 0x80] (.beqRRI 0x0A 0xC7 0x8001) ∧
    Decodes [0x08, 0x34, 0x12, 0xC7, 0x1E] (.beqARR 0x1234 0xC7 0x1E) ∧
    Decodes [0x0A, 0x34, 0x12, 0xC7, 0x01, 0x80] (.beqARI 0x1234 0xC7 0x8001) :=
  ⟨rfl, rfl, rfl, rfl⟩

theorem test_decode_add :
    Decodes [0x01, 0x0A, 0xC7, 0x1E] (.addRRR 0x0A 0xC7 0x1E) ∧
    Decodes [0x03, 0x0A, 0xC7, 0x01, 0x80] (.addRRI 0x0A 0xC7 0x8001) ∧
    Decodes [0x05, 0x0A, 0xFE, 0x00, 0x1E] (.addRIR 0x0A 0x00FE 0x1E) ∧
    Decodes [0x07, 0x0A, 0xFE, 0x00, 0x01, 0x80] (.addRII 0x0A 0x00FE 0x8001) :=
  ⟨rfl, rfl, rfl, rfl⟩

theorem test_decode_bne :
    Decodes [0x10, 0x0A, 0xC7, 0x1E] (.bneRRR 0x0A 0xC7 0x1E) ∧
    Decodes [0x12, 0x0A, 0xC7, 0x01, 0x80] (.bneRRI 0x0A 0xC7 0x8001) ∧
    Decodes [0x18, 0x34, 0x12, 0xC7, 0x1E] (.bneARR 0x1234 0xC7 0x1E) ∧
    Decodes [0x1A, 0x34, 0x12, 0xC7, 0x01, 0x80] (.bneARI 0x1234 0xC7 0x8001) :=
  ⟨rfl, rfl, rfl, rfl⟩

theorem test_decode_sub :
    Decodes [0x11, 0x0A, 0xC7, 0x1E] (.subRRR 0x0A 0xC7 0x1E) ∧
    Decodes [0x13, 0x0A, 0xC7, 0x01, 0x80] (.subRRI 0x0A 0xC7 0x8001) ∧
    Decodes [0x15, 0x0A, 0xFE, 0x00, 0x1E] (.subRIR 0x0A 0x00FE 0x1E) ∧
    Decodes [0x17, 0x0A, 0xFE, 0x00, 0x01, 0x80] (.subRII 0x0A 0x00FE 0x8001) :=
  ⟨rfl, rfl, rfl, rfl⟩

theorem test_decode_blt :
    Decodes [0x20, 0x0A, 0xC7, 0x1E] (.bltRRR 0x0A 0xC7 0x1E) ∧
    Decodes [0x22, 0x0A, 0xC7, 0x01, 0x80] (.bltRRI 0x0A 0xC7 0x8001) ∧
    Decodes [0x28, 0x34, 0x12, 0xC7, 0x1E] (.bltARR 0x1234 0xC7 0x1E) ∧
    Decodes [0x2A, 0x34, 0x12, 0xC7, 0x01, 0x80] (.bltARI 0x1234 0xC7 0x8001) :=
  ⟨rfl, rfl, rfl, rfl⟩

theorem test_decode_mul :
    Decodes [0x21, 0x0A, 0xC7, 0x1E] (.mulRRR 0x0A 0xC7 0x1E) ∧
    Decodes [0x23, 0x0A, 0xC7, 0x01, 0x80] (.mulRRI 0x0A 0xC7 0x8001) ∧
    Decodes [0x25, 0x0A, 0xFE, 0x00, 0x1E] (.mulRIR 0x0A 0x00FE 0x1E) ∧
    Decodes [0x27, 0x0A, 0xFE, 0x00, 0x01, 0x80] (.mulRII 0x0A 0x00FE 0x8001) :=
  ⟨rfl, rfl, rfl, rfl⟩

theorem test_decode_ble :
    Decodes [0x30, 0x0A, 0xC7, 0x1E] (.bleRRR 0x0A 0xC7 0x1E) ∧
    Decodes [0x32, 0x0A, 0xC7, 0x01, 0x80] (.bleRRI 0x0A 0xC7 0x8001) ∧
    Decodes [0x38, 0x34, 0x12, 0xC7, 0x1E] (.bleARR 0x1234 0xC7 0x1E) ∧
    Decodes [0x3A, 0x34, 0x12, 0xC7, 0x01, 0x80] (.bleARI 0x1234 0xC7 0x8001) :=
  ⟨rfl, rfl, rfl, rfl⟩

theorem test_decode_div :
    Decodes [0x31, 0x0A, 0xC7, 0x1E] (.divRRR 0x0A 0xC7 0x1E) ∧
    Decodes [0x33, 0x0A, 0xC7, 0x01, 0x80] (.divRRI 0x0A 0xC7 0x8001) ∧
    Decodes [0x35, 0x0A, 0xFE, 0x00, 0x1E] (.divRIR 0x0A 0x00FE 0x1E) ∧
    Decodes [0x37, 0x0A, 0xFE, 0x00, 0x01, 0x80] (.divRII 0x0A 0x00FE 0x8001) :=
  ⟨rfl, rfl, rfl, rfl⟩

theorem test_decode_bgt :
    Decodes [0x40, 0x0A, 0xC7, 0x1E] (.bgtRRR 0x0A 0xC7 0x1E) ∧
    Decodes [0x42, 0x0A, 0xC7, 0x01, 0x80] (.bgtRRI 0x0A 0xC7 0x8001) ∧
    Decodes [0x48, 0x34, 0x12, 0xC7, 0x1E] (.bgtARR 0x1234 0xC7 0x1E) ∧
    Decodes [0x4A, 0x34, 0x12, 0xC7, 0x01, 0x80] (.bgtARI 0x1234 0xC7 0x8001) :=
  ⟨rfl, rfl, rfl, rfl⟩

theorem test_decode_bge :
    Decodes [0x50, 0x0A, 0xC7, 0x1E] (.bgeRRR 0x0A 0xC7 0x1E) ∧
    Decodes [0x52, 0x0A, 0xC7, 0x01, 0x80] (.bgeRRI 0x0A 0xC7 0x8001) ∧
    Decodes [0x58, 0x34, 0x12, 0xC7, 0x1E] (.bgeARR 0x1234 0xC7 0x1E) ∧
    Decodes [0x5A, 0x34, 0x12, 0xC7, 0x01, 0x80] (.bgeARI 0x1234 0xC7 0x8001) :=
  ⟨rfl, rfl, rfl, rfl⟩

theorem test_decode_frmpf :
    Decodes [0x70, 0x0A, 0xC7, 0x1E] (.frmpfRRR 0x0A 0xC7 0x1E) ∧
    Decodes [0x72, 0x0A, 0xC7, 0x01, 0x80] (.frmpfRRI 0x0A 0xC7 0x8001) ∧
    Decodes [0x74, 0x0A, 0xFE, 0x00, 0x1E] (.frmpfRIR 0x0A 0x00FE 0x1E) ∧
    Decodes [0x76, 0x0A, 0xFE, 0x00, 0x01, 0x80] (.frmpfRII 0x0A 0x00FE 0x8001) ∧
    Decodes [0x78, 0x34, 0x12, 0xC7, 0x1E] (.frmpfIRR 0x1234 0xC7 0x1E) ∧
    Decodes [0x7A, 0x34, 0x12, 0xC7, 0x01, 0x80] (.frmpfIRI 0x1234 0xC7 0x8001) ∧
    Decodes [0x7C, 0x34, 0x12, 0xFE, 0x00, 0x1E] (.frmpfIIR 0x1234 0x00FE 0x1E) ∧
    Decodes [0x7E, 0x34, 0x12, 0xFE, 0x00, 0x01, 0x80] (.frmpfIII 0x1234 0x00FE 0x8001) :=
  ⟨rfl, rfl, rfl, rfl, rfl, rfl, rfl, rfl⟩

theorem test_decode_set :
    Decodes [0x80, 0x0A, 0xC7] (.setRR 0x0A 0xC7) ∧
    Decodes [0x84, 0x0A, 0xFE, 0x00] (.setRI 0x0A 0x00FE) :=
  ⟨rfl, rfl⟩

theorem test_decode_cll :
    Decodes [0x81, 0x0A, 0xC7] (.cllRR 0x0A 0xC7) ∧
    Decodes [0x85, 0x0A, 0xFE, 0x00] (.cllRI 0x0A 0x00FE) ∧
    Decodes [0x89, 0x34, 0x12, 0xC7] (.cllIR 0x1234 0xC7) ∧
    Decodes [0x8D, 0x34, 0x12, 0xFE, 0x00] (.cllII 0x1234 0x00FE) :=
  ⟨rfl, rfl, rfl, rfl⟩

theorem test_decode_bnz :
    Decodes [0x82, 0x0A, 0xC7] (.bnzRR 0x0A 0xC7) ∧
    Decodes [0x86, 0x34, 0x12, 0xC7] (.bnzAR 0x1234 0xC7) :=
  ⟨rfl, rfl⟩

theorem test_decode_setregs :
    Decodes [0x83, 0x0A, 0xC7] (.setregsRR 0x0A 0xC7) ∧
    Decodes [0x87, 0x0A, 0xFE, 0x00] (.setregsRI 0x0A 0x00FE) ∧
    Decodes [0x8B, 0x34, 0x12, 0xC7] (.setregsIR 0x1234 0xC7) ∧
    Decodes [0x8F, 0x34, 0x12, 0xFE, 0x00] (.setregsII 0x1234 0x00FE) :=
  ⟨rfl, rfl, rfl, rfl⟩

theorem test_decode_bz :
    Decodes [0x90, 0x0A, 0xC7] (.bzRR 0x0A 0xC7) ∧
    Decodes [0x98, 0x34, 0x12, 0xC7] (.bzAR 0x1234 0xC7) :=
  ⟨rfl, rfl⟩

theorem test_decode_samp :
    Decodes [0x91, 0x0A, 0xC7] (.sampRR 0x0A 0xC7) ∧
    Decodes [0x95, 0x0A, 0xFE, 0x00] (.sampRI 0x0A 0x00FE) ∧
    Decodes [0x99, 0x34, 0x12, 0xC7] (.sampIR 0x1234 0xC7) ∧
    Decodes [0x9D, 0x34, 0x12, 0xFE, 0x00] (.sampII 0x1234 0x00FE) :=
  ⟨rfl, rfl, rfl, rfl⟩

theorem test_decode_sid :
    Decodes [0xA0, 0x0A, 0xC7, 0x01, 0x80] (.sidRRI 0x0A 0xC7 0x8001) ∧
    Decodes [0xA4, 0x0A, 0xFE, 0x00, 0x01, 0x80] (.sidRII 0x0A 0x00FE 0x8001) ∧
    Decodes [0xA8, 0x34, 0x12, 0xC7, 0x01, 0x80] (.sidIRI 0x1234 0xC7 0x8001) ∧
    Decodes [0xAC, 0x34, 0x12, 0xFE, 0x00, 0x01, 0x80] (.sidIII 0x1234 0x00FE 0x8001) :=
  ⟨rfl, rfl, rfl, rfl⟩

theorem test_decode_lda :
    Decodes [0xA1, 0x0A, 0xC7] (.ldaRR 0x0A 0xC7) ∧
    Decodes [0xA5, 0x0A, 0xFE, 0x00] (.ldaRI 0x0A 0x00FE) :=
  ⟨rfl, rfl⟩

theorem test_decode_ldr : Decodes [0xA3, 0x0A, 0xC7] (.ldrRR 0x0A 0xC7) := rfl

theorem test_decode_tim :
    Decodes [0xB0, 0x0A] (.timR 0x0A) ∧
    Decodes [0xB8, 0x34, 0x12] (.timI 0x1234) :=
  ⟨rfl, rfl⟩

theorem test_decode_exit :
    Decodes [0xB1, 0x0A] (.exitR 0x0A) ∧
    Decodes [0xB9, 0x34, 0x12] (.exitI 0x1234) :=
  ⟨rfl, rfl⟩

theorem test_decode_delay :
    Decodes [0xB2, 0x0A] (.delayR 0x0A) ∧
    Decodes [0xBA, 0x34, 0x12] (.delayI 0x1234) :=
  ⟨rfl, rfl⟩

theorem test_decode_wait :
    Decodes [0xB4, 0x0A] (.waitR 0x0A) ∧
    Decodes [0xBC, 0x34, 0x12] (.waitI 0x1234) :=
  ⟨rfl, rfl⟩

theorem test_decode_frame :
    Decodes [0xC0, 0x0A] (.frameR 0x0A) ∧
    Decodes [0xC8, 0x34, 0x12] (.frameI 0x1234) :=
  ⟨rfl, rfl⟩

theorem test_decode_ubr :
    Decodes [0xC2, 0x0A] (.ubrR 0x0A) ∧
    Decodes [0xCA, 0x34, 0x12] (.ubrA 0x1234) :=
  ⟨rfl, rfl⟩

theorem test_decode_inc : Decodes [0xC6, 0x0A] (.incR 0x0A) := rfl

theorem test_decode_dec : Decodes [0xD0, 0x0A] (.decR 0x0A) := rfl

theorem test_decode_ret : Decodes [0xE0] .ret := rfl

theorem test_decode_vid : Decodes [0xE1, 0x34, 0x12, 0xFE, 0x00, 0x01, 0x80] (.vidIII 0x1234 0x00FE 0x8001) := rfl

theorem test_decode_term : Decodes [0xE2] .term := rfl

theorem test_decode_abort : Decodes [0xE4] .abort := rfl

theorem test_decode_srt : Decodes [0xE8] .srt := rfl

theorem test_decode_lockbuf : Decodes [0xEC] .lockbuf := rfl

theorem test_decode_resetaec : Decodes [0xEE] .resetaec := rfl

theorem test_decode_startave : Decodes [0xF0] .startave := rfl

theorem test_decode_updimax : Decodes [0xF2] .updimax := rfl

theorem test_decode_noop : Decodes [0xFF] .noop := rfl

/-- STTG where `P_OPC_83 = sttg` (R60): the printed bytes. -/
theorem test_decode_sttg :
    let c := { Config.default with opc83 := .sttg }
    decode c [0x83, 0x0A, 0xC7] = .ok (.sttgRR 0x0A 0xC7, []) ∧
    decode c [0x87, 0x0A, 0xFE, 0x00] = .ok (.sttgRI 0x0A 0x00FE, []) ∧
    decode c [0x8B, 0x34, 0x12, 0xC7] = .ok (.sttgIR 0x1234 0xC7, []) ∧
    decode c [0x8F, 0x34, 0x12, 0xFE, 0x00] = .ok (.sttgII 0x1234 0x00FE, []) := ⟨rfl, rfl, rfl, rfl⟩

/-- STTG under `P_STTG_OPCODES = (93, 97, 9B, 9F)`, the spec's example in R146. -/
theorem test_decode_sttg_own_bytes :
    let c := { Config.default with sttgOpcodes := some ⟨0x93, 0x97, 0x9B, 0x9F⟩ }
    decode c [0x9F, 0x00, 0x01, 0x02, 0x00] = .ok (.sttgII 0x0100 0x0002, []) ∧
    decode c [0x93, 0x0A, 0xC7] = .ok (.sttgRR 0x0A 0xC7, []) ∧
    decode c [0x8F, 0x14, 0x00, 0x03, 0x00] = .ok (.setregsII 20 3, []) := ⟨rfl, rfl, rfl⟩

/-- With `P_BYTE_ORDER = big` the two bytes of a 2-byte operand are swapped (R33). -/
theorem test_decode_big_endian :
    decode { Config.default with byteOrder := .big } [0x84, 0x0A, 0x12, 0x34] = .ok (.setRI 0x0A 0x1234, []) := rfl

/-- With `P_UBR_C2 = addr` C2 takes a 2-byte address (R61). -/
theorem test_decode_ubr_c2_address :
    decode { Config.default with ubrC2 := .addr } [0xC2, 0x20, 0x01] = .ok (.ubrA 0x0120, []) := rfl

/-- Bytes without a meaning are rejected by name (R59 to R61, R165). -/
theorem test_decode_rejections :
    decode Config.default [0x04] = .error (.illegalOpcode 0x04) ∧
    decode { Config.default with opc83 := .refuse } [0x8B, 0, 0, 0] = .error .opcode83 ∧
    decode { Config.default with ubrC2 := .refuse } [0xC2, 5] = .error .ubrC2 ∧
    decode Config.default [0x84, 0x0A, 0x34] = .error (.short 2) := ⟨rfl, rfl, rfl, rfl⟩

/-- An instruction laid out as the opcode table numbers its bits. -/
theorem test_decode_table_word :
    decodeTableWord 8 0xE0 = some .ret ∧ decodeTableWord 8 0xCA = some (.ubrA 0) ∧
    decodeTableWord 40 0x00050B0A03 = some (.addRRI 10 11 5) ∧ decodeTableWord 8 0x04 = none := ⟨rfl, rfl, rfl, rfl⟩

/-! ### One step of an instruction: the spec's vectors -/

/-- The next state, if there is one. -/
def nextOf : Result → Option State
  | .next s => some s
  | .fault _ => none
  | .refused _ => none

/-- The state the vectors start from: `P_SEQ_SIZE = 0x1000`. -/
def launch : State := { State.reset with cfg := { Config.default with seqSize := 0x1000 } }

/-- The same with `P_SIGNED = false`. -/
def launchUnsigned : State := { launch with cfg := { launch.cfg with signed := false } }

/-- The state with these registers set. -/
def setRegs (s : State) : List (Nat × Word) → State
  | [] => s
  | (n, v) :: l => setRegs (s.setReg n v) l

/-- The state after one step of the instruction whose bytes stand at 0x0100. -/
def after (bytes : List Byte) (s : State) : Option State :=
  nextOf (step { s with mem := s.mem.writeAll 0x100 bytes, pc := 0x100, mode := .running })

theorem test_A1_add :
    (after [0x03, 0x0A, 0x0B, 0x05, 0x00] (setRegs launch [(11, 7)])).map (fun t => (t.reg 10, t.pc)) =
      some (12, 0x105) := by decide +kernel

theorem test_A5_add_same_register :
    (after [0x01, 0x01, 0x01, 0x01] (setRegs launch [(1, 0x4000)])).map (fun t => (t.reg 1, t.pc)) =
      some (0x8000, 0x104) := by decide +kernel

theorem test_A6_sub :
    (after [0x15, 0x01, 0x00, 0x00, 0x02] (setRegs launch [(2, 1)])).map (fun t => (t.reg 1, t.pc)) =
      some (0xFFFF, 0x105) := by decide +kernel

theorem test_A9_sub :
    (after [0x13, 0x01, 0x02, 0x01, 0x00] (setRegs launch [(2, 0x8000)])).map (fun t => (t.reg 1, t.reg 2)) =
      some (0x7FFF, 0x8000) := by decide +kernel

theorem test_A13_mul_signed :
    (after [0x21, 0x03, 0x04, 0x05] (setRegs launch [(4, 0xFFFF), (5, 2)])).map (fun t => (t.reg 3, t.reg 199, t.pc)) =
      some (0xFFFE, 0xFFFF, 0x104) := by decide +kernel

theorem test_A13_mul_unsigned :
    (after [0x21, 0x03, 0x04, 0x05] (setRegs launchUnsigned [(4, 0xFFFF), (5, 2)])).map (fun t => (t.reg 3, t.reg 199)) =
      some (0xFFFE, 0x0001) := by decide +kernel

theorem test_A17_mul_to_199 :
    (after [0x21, 0xC7, 0x04, 0x05] (setRegs launch [(199, 7)])).map (fun t => (t.mode, t.reg 199, t.pc)) =
      some (.refused .mulDestIsR199, 7, 0x100) := by decide +kernel

theorem test_A20_div_signed :
    (after [0x31, 0x01, 0x02, 0x03] (setRegs launch [(2, 0xFFF9), (3, 2)])).map (fun t => (t.reg 1, t.pc)) =
      some (0xFFFD, 0x104) := by decide +kernel

theorem test_A20_div_unsigned :
    (after [0x31, 0x01, 0x02, 0x03] (setRegs launchUnsigned [(2, 0xFFF9), (3, 2)])).map (fun t => (t.reg 1)) =
      some 0x7FFC := by decide +kernel

theorem test_A23_div_overflow :
    (after [0x31, 0x01, 0x02, 0x03] (setRegs launch [(2, 0x8000), (3, 0xFFFF)])).map (fun t => (t.mode, t.reg 1)) =
      some (.faulted .divideOverflow, 0) := by decide +kernel

theorem test_A24_div_by_zero :
    (after [0x33, 0x01, 0x02, 0x00, 0x00] (setRegs launch [(2, 5)])).map (fun t => (t.mode, t.reg 1, t.pc)) =
      some (.faulted .divideByZero, 0, 0x100) := by decide +kernel

theorem test_A28_inc :
    (after [0xC6, 0x01] (setRegs launch [(1, 0xFFFF)])).map (fun t => (t.reg 1, t.pc)) =
      some (0, 0x102) := by decide +kernel

theorem test_A31_dec :
    (after [0xD0, 0x01] launch).map (fun t => (t.reg 1, t.pc)) =
      some (0xFFFF, 0x102) := by decide +kernel

theorem test_B1_beq_taken :
    (after [0x0A, 0x20, 0x01, 0x05, 0x03, 0x00] (setRegs launch [(5, 3)])).map (fun t => (t.pc)) =
      some 0x120 := by decide +kernel

theorem test_B2_beq_falls_through :
    (after [0x0A, 0x20, 0x01, 0x05, 0x03, 0x00] (setRegs launch [(5, 4)])).map (fun t => (t.pc)) =
      some 0x106 := by decide +kernel

theorem test_B4_bne_taken :
    (after [0x1A, 0x0F, 0x01, 0x0B, 0x00, 0x00] (setRegs launch [(11, 4)])).map (fun t => (t.pc)) =
      some 0x10F := by decide +kernel

theorem test_B26_bne_bounds :
    (after [0x1A, 0x00, 0x10, 0x01, 0x01, 0x00] (setRegs launch [(1, 1)])).map (fun t => (t.mode, t.pc)) =
      some (.faulted (.branchBounds 0x1000), 0x100) := by decide +kernel

theorem test_B7_blt_signed :
    (after [0x28, 0x40, 0x00, 0x01, 0x02] (setRegs launch [(1, 0x7FFF), (2, 0x8000)])).map (fun t => (t.pc)) =
      some 0x105 := by decide +kernel

theorem test_B7_blt_unsigned :
    (after [0x28, 0x40, 0x00, 0x01, 0x02] (setRegs launchUnsigned [(1, 0x7FFF), (2, 0x8000)])).map (fun t => (t.pc)) =
      some 0x40 := by decide +kernel

theorem test_B9_ble_equal :
    (after [0x3A, 0x40, 0x00, 0x01, 0x05, 0x00] (setRegs launch [(1, 5)])).map (fun t => (t.pc)) =
      some 0x40 := by decide +kernel

theorem test_B10_ble_signed :
    (after [0x3A, 0x40, 0x00, 0x01, 0x00, 0x00] (setRegs launch [(1, 0x8000)])).map (fun t => (t.pc)) =
      some 0x40 := by decide +kernel

theorem test_B11_bgt :
    (after [0x48, 0x40, 0x00, 0x01, 0x02] (setRegs launch [(1, 6), (2, 5)])).map (fun t => (t.pc)) =
      some 0x40 := by decide +kernel

theorem test_B12_bgt_signed :
    (after [0x4A, 0x40, 0x00, 0x01, 0x00, 0x00] (setRegs launch [(1, 0xFFFF)])).map (fun t => (t.pc)) =
      some 0x106 := by decide +kernel

theorem test_B13_bge_equal :
    (after [0x52, 0x09, 0x01, 0x00, 0x00] (setRegs launch [(9, 0x300)])).map (fun t => (t.pc)) =
      some 0x300 := by decide +kernel

theorem test_B14_bge_signed :
    (after [0x58, 0x40, 0x00, 0x01, 0x02] (setRegs launch [(1, 0x8000), (2, 0x7FFF)])).map (fun t => (t.pc)) =
      some 0x105 := by decide +kernel

theorem test_B15_bnz_opcode_86 :
    (after [0x86, 0x0F, 0x01, 0x0B] (setRegs launch [(11, 2)])).map (fun t => (t.pc)) =
      some 0x10F := by decide +kernel

theorem test_B16_bnz_falls_through :
    (after [0x86, 0x0F, 0x01, 0x0B] launch).map (fun t => (t.pc)) =
      some 0x104 := by decide +kernel

theorem test_B19_bz :
    (after [0x90, 0x09, 0x01] (setRegs launch [(9, 0x50)])).map (fun t => (t.pc)) =
      some 0x50 := by decide +kernel

theorem test_B20_bz_falls_through :
    (after [0x98, 0x40, 0x00, 0x01] (setRegs launch [(1, 1)])).map (fun t => (t.pc)) =
      some 0x104 := by decide +kernel

theorem test_B23_ubr_last_byte :
    (after [0xCA, 0xFF, 0x0F] launch).map (fun t => (t.pc)) =
      some 0xFFF := by decide +kernel

theorem test_B25_ubr_register_bounds :
    (after [0xC2, 0x05] (setRegs launch [(5, 0x1000)])).map (fun t => (t.mode, t.pc)) =
      some (.faulted (.branchBounds 0x1000), 0x100) := by decide +kernel

/-- The headers of vectors S1 and S3: ID 0x10 at 0x0000, ID 0x11 at 0x0020. -/
def headers : Memory :=
  Memory.writeAll (Memory.writeAll [] 0 [0xAC, 0x10, 0x00, 0x00, 0x00, 0x20, 0x00]) 0x20
    [0xE1, 0x11, 0x00, 0x00, 0x00, 0xFF, 0xFF]

/-- The search of R38 on those headers, the two that are there and one that is not. -/
theorem test_findSeq :
    (({ launch with mem := headers } : State).findSeq 0x10, ({ launch with mem := headers } : State).findSeq 0x11,
      ({ launch with mem := headers } : State).findSeq 0x12) = (some 0, some 0x20, none) := by decide +kernel

theorem test_S2_sid :
    (after [0xA0, 0x01, 0x02, 0x20, 0x00] (setRegs launch [(1, 0x5678), (2, 0x1234)])).map (fun t => (t.hkSeqId, t.trace, t.pc)) =
      some (0x12345678, [.telemetry 0x12345678], 0x105) := by decide +kernel

theorem test_S3_vid :
    (after [0xE1, 0x11, 0x00, 0x00, 0x00, 0xFF, 0xFF] { launch with hkSeqId := 9 }).map (fun t => (t.hkSeqId, t.trace, t.pc)) =
      some (9, [], 0x107) := by decide +kernel

theorem test_S4_cll :
    (after [0x8D, 0x11, 0x00, 0x00, 0x00] { launch with mem := headers, delayTime := 40, nowTicks := 100 }).map (fun t => (t.callStack, t.delayTime, t.pc)) =
      some ([⟨0x105, 40⟩], 100, 0x20) := by decide +kernel

theorem test_S7_cll_full_stack :
    (after [0x8D, 0x11, 0x00, 0x00, 0x00] { launch with mem := headers, callStack := List.replicate 10 ⟨0, 0⟩ }).map (fun t => (t.mode, t.pc)) =
      some (.faulted .callDepth, 0x100) := by decide +kernel

theorem test_S8_ret :
    (after [0xE0] { launch with callStack := [⟨0x10, 40⟩] }).map (fun t => (t.callStack, t.delayTime, t.pc, t.mode)) =
      some ([], 40, 0x10, .running) := by decide +kernel

theorem test_S10_ret_to_list :
    (after [0xE0] { launch with mem := headers, seqList := [0x11], nowTicks := 7 }).map (fun t => (t.seqList, t.delayTime, t.pc)) =
      some ([], 7, 0x20) := by decide +kernel

theorem test_S11_exit :
    (after [0xB9, 0x07, 0x00] { launch with callStack := [⟨0x10, 40⟩] }).map (fun t => (t.rtn, t.delayTime, t.pc)) =
      some (7, 40, 0x10) := by decide +kernel

theorem test_S12_exit_to_idle :
    (after [0xB1, 0x03] (setRegs launch [(3, 0xFFFF)])).map (fun t => (t.rtn, t.mode)) =
      some (0xFFFF, .idle) := by decide +kernel

theorem test_S13_term :
    (after [0xE2] { launch with callStack := [⟨1, 2⟩, ⟨3, 4⟩], seqList := [0x12], pending := some ⟨0x30, []⟩ }).map (fun t => (t.callStack, t.seqList, t.pending, t.mode)) =
      some ([], [], some ⟨0x30, []⟩, .idle) := by decide +kernel

theorem test_S14_abort :
    (after [0xE4] { launch with callStack := [⟨1, 2⟩, ⟨3, 4⟩], seqList := [0x12], pending := some ⟨0x30, []⟩ }).map (fun t => (t.callStack, t.seqList, t.pending, t.mode)) =
      some ([], [], none, .idle) := by decide +kernel

theorem test_T1_wait_zero :
    (after [0xBC, 0x00, 0x00] launch).map (fun t => (t.mode, t.pc)) =
      some (.waitTicks 1, 0x103) := by decide +kernel

theorem test_T4_wait_register :
    (after [0xB4, 0x07] (setRegs launch [(7, 3)])).map (fun t => (t.mode, t.pc)) =
      some (.waitTicks 3, 0x102) := by decide +kernel

theorem test_T7_delay_passed :
    (after [0xBA, 0x64, 0x00] { launch with delayTime := 40, nowTicks := 150 }).map (fun t => (t.mode, t.delayTime, t.pc)) =
      some (.running, 150, 0x103) := by decide +kernel

theorem test_T10_delay_no_wrap :
    (after [0xB2, 0x07] (setRegs { launch with delayTime := 40, nowTicks := 60 } [(7, 0xFFFF)])).map (fun t => (t.mode, t.delayTime)) =
      some (.waitDelay 65575, 40) := by decide +kernel

theorem test_T11_srt :
    (after [0xE8] { launch with lobt := 5000 }).map (fun t => (t.refTime, t.pc)) =
      some (5000, 0x101) := by decide +kernel

theorem test_T12_tim :
    (after [0xB8, 0x1E, 0x00] { launch with refTime := 5000, lobt := 5010 }).map (fun t => (t.mode, t.pc)) =
      some (.waitTime 5030, 0x103) := by decide +kernel

theorem test_T13_tim_passed :
    (after [0xB8, 0x1E, 0x00] { launch with refTime := 5000, lobt := 5030 }).map (fun t => (t.mode, t.pc)) =
      some (.running, 0x103) := by decide +kernel

theorem test_T16_noop :
    (after [0xFF] launch).map (fun t => (t.mode, t.pc, t.draws)) =
      some (.running, 0x101, 0) := by decide +kernel

theorem test_M1_set :
    (after [0x84, 0x0A, 0x34, 0x12] launch).map (fun t => (t.reg 10, t.pc)) =
      some (0x1234, 0x104) := by decide +kernel

theorem test_M2_set :
    (after [0x80, 0x02, 0x03] (setRegs launch [(3, 0xBEEF)])).map (fun t => (t.reg 2, t.reg 3, t.pc)) =
      some (0xBEEF, 0xBEEF, 0x103) := by decide +kernel

theorem test_M6_setregs_over_its_register :
    (after [0x87, 0x05, 0x02, 0x00, 0x0A, 0x00, 0x14, 0x00] (setRegs launch [(5, 5)])).map (fun t => (t.reg 5, t.reg 6, t.pc)) =
      some (10, 20, 0x108) := by decide +kernel

theorem test_M8_setregs_past_last :
    (after [0x8F, 0xFE, 0x00, 0x03, 0x00, 0x01, 0x00, 0x02, 0x00, 0x03, 0x00] launch).map (fun t => (t.mode, t.reg 254, t.pc)) =
      some (.faulted (.regIndex 256), 0, 0x100) := by decide +kernel

theorem test_M11_lda :
    (after [0xA5, 0x07, 0x00, 0x02] { launch with regs := List.replicate 16 0 }).map (fun t => (t.reg 7, t.draws, t.pc)) =
      some (Config.ccWord 0 .byte 0x200, 1, 0x104) := rfl

theorem test_M12_lda_register :
    (after [0xA1, 0x07, 0x08] (setRegs { launch with draws := 5, regs := List.replicate 16 0 } [(8, 0x200)])).map (fun t => (t.reg 7, t.pc)) =
      some (Config.ccWord 5 .byte 0x200, 0x103) := rfl

theorem test_M13_ldr :
    (after [0xA3, 0x1F, 0x1E] (setRegs launch [(30, 20), (20, 100)])).map (fun t => (t.reg 31, t.reg 30, t.pc)) =
      some (100, 21, 0x103) := by decide +kernel

theorem test_M15_ldr_pointing_at_destination :
    (after [0xA3, 0x1F, 0x1E] (setRegs launch [(30, 31), (31, 9)])).map (fun t => (t.reg 31, t.reg 30)) =
      some (9, 32) := by decide +kernel

theorem test_M18_ldr_same_register :
    (after [0xA3, 0x1F, 0x1F] launch).map (fun t => (t.mode, t.pc)) =
      some (.refused .ldrSameRegister, 0x100) := by decide +kernel

/-- The tables of vectors O1 to O9. -/
def observing : State := { launch with tables := ⟨[0x25], [3], [(0x000201, [7]), (0x000201, [1, 2])]⟩ }

theorem test_O2_frame :
    (after [0xC0, 0x04] (setRegs observing [(4, 0x12F)])).map (fun t => (t.trace, t.mode, t.pc)) =
      some ([.picture 0x12F none none], .waitFrame, 0x102) := by decide +kernel

theorem test_O3_frame_no_fdb :
    (after [0xC8, 0x30, 0x01] observing).map (fun t => (t.trace, t.mode)) =
      some ([], .faulted (.tableLookup .frame 0x130)) := by decide +kernel

theorem test_O4_frmpf :
    (after [0x7E, 0x28, 0x01, 0x00, 0x00, 0xFE, 0xFF] observing).map (fun t => (t.trace, t.mode, t.pc)) =
      some ([.picture 0x128 (some 0) (some (-2))], .waitFrame, 0x107) := by decide +kernel

theorem test_O6_frmpf_no_pzt :
    (after [0x70, 0x01, 0x02, 0x03] (setRegs observing [(1, 0x128), (2, 9)])).map (fun t => (t.trace, t.mode)) =
      some ([], .faulted (.tableLookup .pzt 9)) := by decide +kernel

theorem test_O7_samp :
    (after [0x9D, 0x02, 0x00, 0x00, 0x00] { launch with camAmp := 5, camAdcOffset := 6 }).map (fun t => (t.camAmp, t.camAdcOffset, t.trace, t.pc)) =
      some (2, 6, [.samp 2 0], 0x105) := by decide +kernel

theorem test_O8_samp :
    (after [0x95, 0x01, 0x00, 0x01] { launch with camAmp := 5, camAdcOffset := 6 }).map (fun t => (t.camAmp, t.camAdcOffset, t.pc)) =
      some (5, 0x100, 0x104) := by decide +kernel

/-- Of two targets with the same key the last is used (R152). -/
theorem test_O9_sttg :
    (after [0x8F, 0x00, 0x01, 0x02, 0x00] { observing with cfg := { launch.cfg with opc83 := .sttg } }).map (fun t => (t.wedgeRequest, t.trace, t.mode)) =
      some ([1, 2], [.target 0x00020100], .waitSlew) := by decide +kernel

theorem test_O10_lockbuf :
    (after [0xEC] { launch with nbf := 3, flare := ⟨[(4, .other 0)], some 4⟩ }).map (fun t => (t.nbf, t.cbf, t.flare.buffers, t.trace, t.pc)) =
      some (2, (Config.nextAvailable ⟨[(4, .locked)], some 4⟩).2, [(4, .locked)], [.lockBuf], 0x101) := rfl

theorem test_O11_lockbuf_no_buffer :
    (after [0xEC] { launch with nbf := 3, flare := ⟨[(4, .other 0)], none⟩ }).map (fun t => (t.nbf, t.flare.buffers, t.trace, t.pc)) =
      some (3, [(4, .other 0)], [], 0x101) := by decide +kernel

theorem test_O12_resetaec :
    (after [0xEE] { launch with aecDef := Vector.replicate 128 8 }).map (fun t => (t.aecCur[(0 : Fin 128)], t.aecCur[(127 : Fin 128)], t.trace)) =
      some (8, 8, [.resetAec]) := by decide +kernel

theorem test_O13_startave :
    (after [0xF0] launch).map (fun t => (t.startAve, t.trace, t.pc)) =
      some (true, [.startAve], 0x101) := by decide +kernel

theorem test_O14_updimax :
    (after [0xF2] { launch with draws := 3 }).map (fun t => (t.imaxRow, t.imaxCol, t.draws, t.pc)) =
      some ((Config.imaxOf 3).1, (Config.imaxOf 3).2, 4, 0x101) := rfl

/-! ### Fetching and events: the spec's vectors -/

theorem test_X1_illegal_opcode :
    (after [0x04] launch).map (fun t => (t.mode, t.pc)) =
      some (.faulted (.illegalOpcode 0x04), 0x100) := by decide +kernel

theorem test_X3_immediate_past_the_end :
    (after [0x84, 0x0A, 0x34, 0x12] { launch with cfg := { launch.cfg with seqSize := 0x103 } }).map (fun t => (t.mode, t.reg 10)) =
      some (.faulted (.fetchBounds 0x102), 0) := by decide +kernel

/-- X5, X6: a command received in a frame wait is held, the later replacing the earlier, and does not start. -/
theorem test_X6_newSequence_in_frame_wait :
    let s := { launch with mode := .waitFrame, pending := some ⟨0x11, []⟩, schedule := [.newSequence ⟨0x12, []⟩] }
    (nextOf (step s)).map (fun t => (t.pending, t.mode, t.startEnabled)) =
      some (some ⟨0x12, []⟩, .waitFrame, false) := by decide +kernel

/-- X7: a pending command whose first sequence has no header. -/
theorem test_X7_startPending_missing :
    (nextOf (step { launch with pending := some ⟨0x99, []⟩ })).map (fun t => (t.pending, t.mode)) =
      some (none, .faulted (.seqNotFound 0x99)) := by decide +kernel

/-- T6: the tick that ends a delay. -/
theorem test_T6_tick_ends_delay :
    (nextOf (step { launch with mode := .waitDelay 140, nowTicks := 139, schedule := [.tick] })).map
      (fun t => (t.mode, t.delayTime, t.nowTicks)) = some (.running, 140, 140) := by decide +kernel

/-- T12: the on-board time that ends a TIM. -/
theorem test_T12_lobt_ends_tim :
    (nextOf (step { launch with mode := .waitTime 5030, lobt := 5029, schedule := [.lobt 5030] })).map
      (fun t => (t.mode, t.lobt)) = some (.running, 5030) := by decide +kernel

/-- An instruction placed in the machine after reset runs at the next step. -/
theorem test_placed_runs_after_reset :
    (nextOf (step (State.reset.withFetchWord 40 0x00050B0A03))).map (fun t => (t.reg 10, t.pc)) =
      some (5, 5) := by decide +kernel
/-! ### The hypotheses of the obligations are met -/

/-- A machine with the fewest registers (R11) and a small sequence space. -/
def small : State :=
  { State.reset with cfg := { Config.default with seqSize := 16 }, regs := List.replicate 200 0, pc := 3, mode := .running }

/-- A list of registers that all exist, by evaluation. -/
theorem regsExist_of (s : State) (rs : List Reg) (h : rs.all (fun r => decide (r.toNat < s.nregs)) = true) :
    RegsExist s rs := fun r hr => of_decide_eq_true (List.all_eq_true.mp h r hr)

/-- The last register of the smallest file exists, alone and beside the first. -/
theorem small_regs : RegsExist small [199] ∧ RegsExist small [0, 199] ∧ RegsExist small [0, 198, 199] :=
  ⟨regsExist_of _ _ (by decide +kernel), regsExist_of _ _ (by decide +kernel), regsExist_of _ _ (by decide +kernel)⟩

theorem witness_AddWritesWrappedSum : RegsExist small [199] ∧ RegsExist small [0, 199] := ⟨small_regs.1, small_regs.2.1⟩

theorem witness_SubWritesWrappedDifference : RegsExist small [199] ∧ RegsExist small [0, 199] :=
  ⟨small_regs.1, small_regs.2.1⟩

/-- Both clauses: a destination beside register 199 and register 199 itself. -/
theorem witness_MulSplitsProduct :
    RegsExist small [199] ∧ RegsExist small [198] ∧ RegsExist small [0, 199] ∧
      (198 : Reg).toNat ≠ 199 ∧ (199 : Reg).toNat = 199 :=
  ⟨small_regs.1, regsExist_of _ _ (by decide +kernel), small_regs.2.1, by decide, by decide⟩

/-- The four clauses: next to the overflow, unsigned, a zero divisor, the overflow; in registers and as immediates. -/
theorem witness_DivRoundsTowardZeroOrFaults :
    let s := setRegs small [(0, 0x8000), (199, 0xFFFF)]
    RegsExist s [198] ∧ RegsExist s [0, 199] ∧ rv s 0 = 0x8000 ∧ rv s 199 = 0xFFFF ∧ rv s 1 = 0 ∧
      s.cfg.signed = true ∧ ¬((0x8001 : Word) = 0x8000 ∧ (0xFFFF : Word) = 0xFFFF) ∧ (0xFFFF : Word) ≠ 0 ∧
      { s.cfg with signed := false }.signed = false :=
  ⟨regsExist_of _ _ (by decide +kernel), regsExist_of _ _ (by decide +kernel), by decide +kernel, by decide +kernel,
    by decide +kernel, rfl, by decide, by decide, rfl⟩

theorem witness_IncDecWrap : RegsExist small [199] := small_regs.1

/-- The clauses of a branch: the last address of sequence space, the first outside it under either setting. -/
theorem witness_branch_clauses :
    let s := setRegs small [(1, 15), (2, 16)]
    let s' := { s with cfg := { s.cfg with boundsCheck := .taken } }
    (rv s 1).toNat < s.cfg.seqSize ∧ s.cfg.seqSize ≤ (rv s 2).toNat ∧ s.cfg.boundsCheck = .always ∧
      s'.cfg.seqSize ≤ (rv s' 2).toNat ∧ s'.cfg.boundsCheck = .taken := by decide +kernel

theorem witness_EqualityBranches :
    RegsExist small [199] ∧ RegsExist small [0, 199] ∧ decide (rv small 199 = rv small 0) = true ∧
      decide (rv small 199 = (1 : Word)) = false :=
  ⟨small_regs.1, small_regs.2.1, by decide +kernel, by decide +kernel⟩

theorem witness_OrderBranches :
    let s := setRegs small [(199, 0xFFFF)]
    RegsExist s [199] ∧ RegsExist s [0, 199] ∧ less s (rv s 199) (rv s 0) = true ∧ less s (rv s 0) (rv s 199) = false :=
  ⟨regsExist_of _ _ (by decide +kernel), regsExist_of _ _ (by decide +kernel), by decide +kernel, by decide +kernel⟩

theorem witness_ZeroTestBranches :
    RegsExist small [199] ∧ RegsExist small [0] ∧ decide (rv small 199 = 0) = true ∧
      decide (rv (setRegs small [(199, 1)]) 199 = 0) = false :=
  ⟨small_regs.1, regsExist_of _ _ (by decide +kernel), by decide +kernel, by decide +kernel⟩

theorem witness_UbrGoesToCheckedTarget :
    RegsExist small [199] ∧ (15 : Word).toNat < small.cfg.seqSize ∧ small.cfg.seqSize ≤ (16 : Word).toNat :=
  ⟨small_regs.1, by decide, by decide⟩

/-- The vectors' machine with two headers, at the last frame the stack takes and one more. -/
theorem witness_CllPushesAndEnters :
    let s := { launch with mem := headers, callStack := List.replicate 9 ⟨0, 0⟩ }
    let s' := { s with callStack := List.replicate 10 ⟨0, 0⟩ }
    RegsExist s [0, 255] ∧ RegsExist s [255] ∧ s.callStack.length ≠ s.cfg.callDepth ∧ s.findSeq 0x11 = some 0x20 ∧
      s'.callStack.length = s'.cfg.callDepth ∧ s.findSeq 0x12 = none :=
  ⟨regsExist_of _ _ (by decide +kernel), regsExist_of _ _ (by decide +kernel), by decide +kernel, by decide +kernel,
    by decide +kernel, by decide +kernel⟩

theorem witness_SidPlacesIdInTelemetry : RegsExist small [0, 199] ∧ RegsExist small [199] := ⟨small_regs.2.1, small_regs.1⟩

/-- The four ways a sequence ends. -/
theorem witness_RetEndsNormally :
    (∃ f fs, ({ launch with callStack := [⟨15, 40⟩] } : State).callStack = f :: fs) ∧
    (launch.callStack = [] ∧ launch.seqList = []) ∧
    (let s := { launch with mem := headers, seqList := [0x11] }; s.callStack = [] ∧ (∃ ids, s.seqList = 0x11 :: ids) ∧ s.findSeq 0x11 = some 0x20) ∧
    (let s := { launch with mem := headers, seqList := [0x12, 0x11] }; s.callStack = [] ∧ (∃ ids, s.seqList = 0x12 :: ids) ∧ s.findSeq 0x12 = none) :=
  ⟨⟨_, _, rfl⟩, ⟨rfl, rfl⟩, ⟨rfl, ⟨_, rfl⟩, by decide +kernel⟩, ⟨rfl, ⟨_, rfl⟩, by decide +kernel⟩⟩

theorem witness_ExitSetsRtnAndEndsNormally :
    RegsExist small [199] ∧ small.cfg.builtinReg.rtn = none ∧
      ({ small.cfg with builtinReg := ⟨some 199, none, none⟩ } : Config).builtinReg.rtn = some 199 :=
  ⟨small_regs.1, rfl, rfl⟩

theorem witness_WaitParksForTicks :
    RegsExist small [199] ∧ (regNumbers (Instr.waitR 200).operands).find? (fun m => decide (small.nregs ≤ m)) = some 200 :=
  ⟨small_regs.1, by decide +kernel⟩

/-- The last tick that waits and the first that does not, under both settings. -/
theorem witness_DelayWaitsOrRebases :
    let s := { small with delayTime := 40, nowTicks := 139 }
    let s' := { s with nowTicks := 140 }
    RegsExist s [199] ∧ s.nowTicks < s.delayTime + 100 ∧ s'.delayTime + 100 ≤ s'.nowTicks ∧
      s'.cfg.delayRebase = .now ∧ { s'.cfg with delayRebase := .target }.delayRebase = .target :=
  ⟨regsExist_of _ _ (by decide +kernel), by decide, by decide, rfl, rfl⟩

theorem witness_TimWaitsForLobt :
    let s := { small with refTime := 5000, lobt := 5029 }
    let s' := { s with lobt := 5030 }
    RegsExist s [199] ∧ s.lobt < s.refTime + 30 ∧ s'.refTime + 30 ≤ s'.lobt ∧
      (regNumbers (Instr.timR 200).operands).find? (fun m => decide (s.nregs ≤ m)) = some 200 :=
  ⟨regsExist_of _ _ (by decide +kernel), by decide, by decide, by decide +kernel⟩

theorem witness_SetCopiesWord :
    RegsExist small [199] ∧ RegsExist small [0] ∧
      (regNumbers (Instr.setRR 0 200).operands).find? (fun m => decide (small.nregs ≤ m)) = some 200 :=
  ⟨small_regs.1, regsExist_of _ _ (by decide +kernel), by decide +kernel⟩

/-- A run up to the last register whose words end with sequence space, one register more, one word more, and no word. -/
theorem witness_SetregsLoadsRun :
    RegsExist small [0, 199] ∧ RegsExist small [199] ∧
    (198 + 2 ≤ small.nregs ∧ 12 + 2 * 2 ≤ small.cfg.seqSize) ∧
    (0 < 3 ∧ small.nregs < 198 + 3) ∧
    (197 + 3 ≤ small.nregs ∧ small.cfg.seqSize < 12 + 2 * 3) ∧
    16 + 2 * 0 ≤ small.cfg.seqSize :=
  ⟨small_regs.2.1, small_regs.1, by decide +kernel, by decide +kernel, by decide +kernel, by decide⟩

theorem witness_LdaLoadsOracleWord :
    RegsExist small [199] ∧ RegsExist small [0] ∧ (0x200 : Word) ∉ small.cfg.ccExcluded ∧
      (0x200 : Word) ∈ ({ small.cfg with ccExcluded := [0x200] } : Config).ccExcluded :=
  ⟨small_regs.1, regsExist_of _ _ (by decide +kernel), by decide, by decide⟩

/-- The last register a pointer reaches and the first it does not. -/
theorem witness_LdrLoadsAndIncrements :
    RegsExist small [0, 199] ∧ RegsExist small [199, 199] ∧ (0 : Reg) ≠ 199 ∧
      (rv (setRegs small [(199, 199)]) 199).toNat < small.nregs ∧
      small.nregs ≤ (rv (setRegs small [(199, 200)]) 199).toNat :=
  ⟨small_regs.2.1, regsExist_of _ _ (by decide +kernel), by decide, by decide +kernel, by decide +kernel⟩

theorem witness_FrameRequestsPicture :
    RegsExist observing [255] ∧ BitVec.ofNat 13 ((0x12F : Word).toNat / 8) ∈ observing.tables.fdbKeys ∧
      BitVec.ofNat 13 ((0x130 : Word).toNat / 8) ∉ observing.tables.fdbKeys :=
  ⟨regsExist_of _ _ (by decide +kernel), by decide, by decide⟩

theorem witness_FrmpfRequestsOffsetPicture :
    RegsExist observing [0, 1, 255] ∧ RegsExist observing [0, 255] ∧ RegsExist observing [255] ∧
      BitVec.ofNat 13 ((0x128 : Word).toNat / 8) ∈ observing.tables.fdbKeys ∧ (3 : Word) ∈ observing.tables.pztIndices ∧
      BitVec.ofNat 13 ((0x127 : Word).toNat / 8) ∉ observing.tables.fdbKeys ∧
      (9 : Word) ≠ 0 ∧ (9 : Word) ∉ observing.tables.pztIndices :=
  ⟨regsExist_of _ _ (by decide +kernel), regsExist_of _ _ (by decide +kernel), regsExist_of _ _ (by decide +kernel),
    by decide, by decide, by decide, by decide, by decide⟩

theorem witness_SampSetsNonzeroCells :
    RegsExist small [0, 199] ∧ RegsExist small [199] ∧
      (regNumbers (Instr.sampII 1 2).operands).find? (fun m => decide (small.nregs ≤ m)) = none ∧
      (regNumbers (Instr.sampRR 199 200).operands).find? (fun m => decide (small.nregs ≤ m)) = some 200 :=
  ⟨small_regs.2.1, small_regs.1, by decide +kernel, by decide +kernel⟩

/-- A target that stands twice, its last entry last, and one that is not there. -/
theorem witness_SttgRequestsTarget :
    RegsExist observing [0, 255] ∧ RegsExist observing [255] ∧
    (∃ pre post w, observing.tables.pct = pre ++ (BitVec.ofNat 24 ((0x000201FF : SeqId).toNat / 256), w) :: post ∧
      ∀ e ∈ post, e.1 ≠ BitVec.ofNat 24 ((0x000201FF : SeqId).toNat / 256)) ∧
    ∀ e ∈ observing.tables.pct, e.1 ≠ BitVec.ofNat 24 ((0x00020200 : SeqId).toNat / 256) :=
  ⟨regsExist_of _ _ (by decide +kernel), regsExist_of _ _ (by decide +kernel),
    ⟨[(0x000201, [7])], [], [1, 2], by decide +kernel, by decide⟩, by decide +kernel⟩

theorem witness_LockbufLocksCurrentBuffer :
    (let f : Flare := ⟨[(4, .other 0)], some 4⟩; ∃ b ∈ f.buffers, f.current = some b.1) ∧
    (let f : Flare := ⟨[(4, .other 0)], some 5⟩; ∀ b ∈ f.buffers, f.current ≠ some b.1) :=
  ⟨⟨(4, .other 0), by decide, rfl⟩, by decide⟩

/-- The encoding statements: each instruction they name has an encoding under the default parameters. -/
theorem witness_EncodedAs :
    Config.default.wf = true ∧
      [Instr.vidIII 1 2 3, .waitR 1, .waitI 2, .srt, .timR 1, .timI 2, .noop, .setRR 1 2, .setRI 1 2, .sampRR 1 2,
        .sampRI 1 2, .sampIR 1 2, .sampII 1 2, .resetaec, .startave, .updimax].all (·.wellFormed Config.default) = true := by
  decide

/-- A machine with SET R10, #0x1234 at its pc, the last byte of sequence space the last of the instruction. -/
def atSet : State :=
  { small with mem := Memory.writeAll [] 12 [0x84, 0x0A, 0x34, 0x12], pc := 12 }

theorem witness_StepRunsDecodedInstruction :
    atSet.mode = .running ∧ decode atSet.cfg (fetchWindow atSet) = .ok (.setRI 10 0x1234, []) ∧ atSet.schedule = [] ∧
      ({ atSet with schedule := [.exec, .tick] } : State).schedule = .exec :: [.tick] := ⟨rfl, rfl, rfl, rfl⟩

theorem witness_StepRunsEncodedInstruction :
    atSet.cfg.wf = true ∧ (Instr.setRI 10 0x1234).wellFormed atSet.cfg = true ∧ atSet.mode = .running ∧
      atSet.pc + (encode atSet.cfg (.setRI 10 0x1234)).length ≤ atSet.cfg.seqSize ∧
      atSet.mem.bytes atSet.pc (encode atSet.cfg (.setRI 10 0x1234)).length = encode atSet.cfg (.setRI 10 0x1234) ∧
      atSet.schedule = [] ∧ ({ atSet with schedule := [.exec, .tick] } : State).schedule = .exec :: [.tick] := by
  decide +kernel

/-- The four reasons a fetch fails, and both schedules. -/
theorem witness_FailedFetchStops :
    decode atSet.cfg (fetchWindow { atSet with pc := 16 }) = .error (.short 0) ∧
    decode atSet.cfg (fetchWindow { atSet with mem := [(12, 0x04)] }) = .error (.illegalOpcode 0x04) ∧
    (let c := { atSet.cfg with opc83 := .refuse }; decode c (fetchWindow { atSet with cfg := c, mem := [(12, 0x83)] }) = .error .opcode83) ∧
    (let c := { atSet.cfg with ubrC2 := .refuse }; decode c (fetchWindow { atSet with cfg := c, mem := [(12, 0xC2)] }) = .error .ubrC2) ∧
    atSet.mode = .running ∧ atSet.schedule = [] ∧
      ({ atSet with schedule := [.exec, .tick] } : State).schedule = .exec :: [.tick] := ⟨rfl, rfl, rfl, rfl, rfl, rfl, rfl⟩

theorem witness_BytesWithoutMeaningStop :
    atSet.mode = .running ∧ atSet.schedule = [] ∧ ({ atSet with pc := 16 } : State).cfg.seqSize ≤ 16 ∧
    (15 < atSet.cfg.seqSize ∧ Memory.read [(15, 0x04)] 15 ∉ assignedOpcodes ∧
      ∀ q, atSet.cfg.sttgOpcodes = some q → Memory.read [(15, 0x04)] 15 ∉ [q.rr, q.ri, q.ir, q.ii]) ∧
    ({ atSet.cfg with opc83 := .refuse }.opc83 = .refuse ∧
      Memory.read [(15, 0x8F)] 15 ∈ ([0x83, 0x87, 0x8B, 0x8F] : List Byte)) ∧
    ({ atSet.cfg with ubrC2 := .refuse }.ubrC2 = .refuse ∧ Memory.read [(15, 0xC2)] 15 = 0xC2) :=
  ⟨rfl, rfl, by decide, ⟨by decide, by decide, fun _ h => by cases h⟩, ⟨rfl, by decide⟩, ⟨rfl, by decide⟩⟩

/-- Under the default and under STTG's own opcodes. -/
theorem witness_DecodeEncodeRoundTrip :
    let c := { Config.default with sttgOpcodes := some ⟨0x93, 0x97, 0x9B, 0x9F⟩ }
    Config.default.wf = true ∧ (Instr.setregsII 1 2).wellFormed Config.default = true ∧
      c.wf = true ∧ (Instr.sttgII 1 2).wellFormed c = true := by decide

theorem witness_EncodeDecodeRoundTrip :
    let c := { Config.default with opc83 := .sttg }
    (Config.default.wf = true ∧ Config.default.opc83 ≠ .sttg ∧ Config.default.ubrC2 ≠ .addr ∧
      decode Config.default [0xC2, 0x05, 0xFF] = .ok (.ubrR 5, [0xFF])) ∧
    (c.wf = true ∧ c.sttgOpcodes = none ∧ c.ubrC2 ≠ .addr ∧ decode c [0x83, 0x05, 0xFF] = .ok (.sttgRR 5 0xFF, [])) :=
  ⟨⟨by decide, by decide, by decide, rfl⟩, by decide, rfl, by decide, rfl⟩

/-- The second operand is the first whose register does not exist. -/
theorem witness_MissingRegisterRaisesRegIndex :
    (regNumbers (Instr.addRRR 199 200 255).operands).find? (fun m => decide (small.nregs ≤ m)) = some 200 := by
  decide +kernel

theorem witness_PlacedInstructionRunsNext :
    State.reset.cfg = Config.default ∧ State.reset.mem.wf = true ∧ 56 ≤ 56 ∧
      decodeTableWord 56 0xFFFF00000011E1 = some (.vidIII 0x0011 0 0xFFFF) := ⟨rfl, rfl, by decide, rfl⟩

/-- A state with the invariant, that executes. -/
theorem atSet_inv : atSet.Inv where
  cfg := by decide
  nregs := by decide +kernel
  builtin := fun b n h => by cases b <;> cases h
  mem := by decide +kernel
  pc := by decide
  depth := by decide
  ret := by decide
  mode := trivial

/-- The next state of `atSet`. -/
theorem atSet_step : ∃ t, step atSet = .next t ∧ t.reg 10 = 0x1234 ∧ t.pc = atSet.cfg.seqSize :=
  ⟨_, rfl, by decide +kernel, by decide +kernel⟩

theorem witness_StepKeepsInvariant : atSet.Inv ∧ ∃ t, step atSet = .next t := ⟨atSet_inv, atSet_step.imp fun _ h => h.1⟩

theorem witness_StepKeepsFixedParts : ∃ t, step atSet = .next t := atSet_step.imp fun _ h => h.1

theorem witness_ClocksAndTraceOnlyAdvance : ∃ t, step atSet = .next t := atSet_step.imp fun _ h => h.1

theorem witness_InstructionRegisterFrame :
    (∃ t, exec (.mulRRR 3 4 5) small = .next t) ∧ 4 ∉ writtenRegs small (.mulRRR 3 4 5) := ⟨⟨_, rfl⟩, by decide⟩

/-- A SID and an SRT that change what only they write. -/
theorem witness_TelemetryIdWrittenBySidOnly :
    ∃ t, step { small with mem := Memory.writeAll [] 3 [0xAC, 0x10, 0x00, 0x00, 0x00, 0x20, 0x00] } = .next t ∧
      t.hkSeqId ≠ small.hkSeqId := ⟨_, rfl, by decide⟩

theorem witness_RefTimeWrittenBySrtReadByTim :
    (∃ t, step { small with mem := [(3, 0xE8)], lobt := 7 } = .next t ∧ t.refTime ≠ small.refTime) ∧
      isTim (.delayI 3) = false := ⟨⟨_, rfl, by decide⟩, rfl⟩

theorem witness_StoppedModeIsNeverLeft :
    let s := { small with mode := .faulted .callDepth, schedule := [.tick] }
    s.mode.stopped = true ∧ ∃ t, step s = .next t := ⟨rfl, _, rfl⟩

/-- A fault that changes the mode alone, and the lost next sequence. -/
theorem witness_FaultingInstructionChangesNothingElse :
    (small.mode = .running ∧ ∃ t, exec (.divRII 1 5 0) small = .next t ∧ t.mode.stopped = true) ∧
    (let s := { small with seqList := [0x12] }; s.mode = .running ∧ ∃ t, exec .ret s = .next t ∧ t.mode.stopped = true ∧ t.seqList = []) :=
  ⟨⟨rfl, _, rfl, by decide +kernel⟩, rfl, _, rfl, by decide +kernel, by decide +kernel⟩

/-- Each wait left by its own event at the boundary of its range, and by a start; a wait that a tick keeps; an execution
scheduled in a wait. -/
theorem witness_DeferringWaitsLeftByOwnEvent :
    (let s := { small with mode := .waitTicks 1, schedule := [.tick] }; ∃ t, step s = .next t ∧ t.mode ≠ s.mode) ∧
    (let s := { small with mode := .waitTicks 2, schedule := [.tick] }; ∃ t, step s = .next t ∧ t.mode ≠ s.mode) ∧
    (let s := { small with mode := .waitDelay 1, nowTicks := 0, schedule := [.tick] }; ∃ t, step s = .next t ∧ t.mode ≠ s.mode) ∧
    (let s := { small with mode := .waitTime 7, lobt := 6, schedule := [.lobt 7] }; ∃ t, step s = .next t ∧ t.mode ≠ s.mode) ∧
    (let s := { small with mode := .waitFrame, schedule := [.frameDone .timeout] }; ∃ t, step s = .next t ∧ t.mode ≠ s.mode) ∧
    (let s := { small with mode := .waitSlew, schedule := [.slewDone] }; ∃ t, step s = .next t ∧ t.mode ≠ s.mode) ∧
    StartIsNext { launch with mode := .waitTime 7, pending := some ⟨0x11, []⟩ } ∧
    (let s := { launch with mode := .waitDelay 9, schedule := [.tick] };
      (∃ t, step s = .next t) ∧ Waiting s.mode ∧ ¬StartIsNext s) ∧
    (let s := { small with mode := .waitTicks 2, schedule := [.exec] }; s.mode ≠ .running ∧ s.schedule = .exec :: []) :=
  ⟨⟨_, rfl, by decide⟩, ⟨_, rfl, by decide⟩, ⟨_, rfl, by decide⟩, ⟨_, rfl, by decide⟩, ⟨_, rfl, by decide⟩, ⟨_, rfl, by decide⟩,
    ⟨by decide, trivial, .inl rfl⟩, ⟨⟨_, rfl⟩, trivial, fun h => h.1 rfl⟩, by decide, rfl⟩

/-- The clauses of a start: found, missing, nothing pending, a mode that does not admit it. -/
theorem witness_StartPendingEntersFirstSequence :
    let s := { launch with mem := headers, pending := some ⟨0x11, [0x10]⟩, schedule := [.startPending] }
    s.schedule = .startPending :: [] ∧ MayStart s.mode ∧ s.findSeq 0x11 = some 0x20 ∧ s.findSeq 0x12 = none ∧
      launch.pending = none ∧ ¬MayStart .waitFrame ∧ ¬MayStart (.refused .ubrC2) :=
  ⟨rfl, trivial, by decide +kernel, by decide +kernel, rfl, id, id⟩

/-- The clauses of a tick: the last and the last but one of a WAIT, a DELAY that ends and one that does not. -/
theorem witness_TickCountsAndEndsWaits :
    let s := { small with mode := .waitDelay 140, nowTicks := 139, schedule := [.tick] }
    s.schedule = .tick :: [] ∧ s.mode = .waitDelay 140 ∧ 140 ≤ s.nowTicks + 1 ∧ 138 + 1 < 140 ∧ 1 < 2 ∧
      (∀ k, 0 < k → s.mode ≠ .waitTicks k) ∧
      (∀ k, 0 < k → Mode.running ≠ .waitTicks k) ∧ ∀ t, Mode.running = .waitDelay t → 0 + 1 < t :=
  ⟨rfl, rfl, by decide, by decide, by decide, (fun _ _ h => by cases h),
    (fun _ _ h => by cases h), (fun _ h => by cases h)⟩

theorem witness_WaitEndsAtLastTick :
    ({ small with mode := .waitTicks 2 } : State).mode = .waitTicks 2 ∧ 1 ≤ 2 ∧ 2 ≤ 2 ∧ 1 ≤ 2 :=
  ⟨rfl, by decide, by decide, by decide⟩

/-- The on-board time that just ends a TIM, one that does not, one that runs backwards; the modes of the other events; a
built-in with a cell of its own and a mapped one; a write of the environment that is scheduled. -/
theorem witness_EnvironmentEventsStep :
    let s := { small with lobt := 5029, mode := .waitTime 5030, schedule := [.lobt 5030] }
    s.schedule = .lobt 5030 :: [] ∧ s.lobt ≤ 5030 ∧ s.mode = .waitTime 5030 ∧ 5030 ≤ 5030 ∧ s.lobt ≤ 5029 ∧ 5029 < 5030 ∧
      5028 < s.lobt ∧ ({ small with mode := .waitFrame } : State).mode = .waitFrame ∧ small.mode ≠ .waitFrame ∧
      small.mode ≠ .waitSlew ∧ small.cfg.builtinReg.nbf = none ∧
      ({ small with cfg := { small.cfg with builtinReg := ⟨none, some 199, none⟩ } } : State).cfg.builtinReg.nbf = some 199 ∧
      ({ small with schedule := [.envWrite (.nbf 3)] } : State).schedule = .envWrite (.nbf 3) :: [] := by decide

/-- `$NBF` mapped onto register 199: the environment's write goes there. -/
theorem test_envWrite_mapped_builtin :
    (match step { small with
        cfg := { small.cfg with builtinReg := ⟨none, some 199, none⟩ }, schedule := [.envWrite (.nbf 3)] } with
      | .next t => (t.reg 199, t.nbf)
      | _ => (0, 1)) = (3, small.nbf) := by decide +kernel

theorem witness_CallThenReturnResumesCaller :
    let s := { launch with mem := headers }
    s.callStack.length ≠ s.cfg.callDepth ∧ s.findSeq ((0 : Word) ++ (0x11 : Word)) = some 0x20 ∧
      ∃ t u : State, exec (.cllII 0x11 0) s = .next t ∧ u.callStack = t.callStack ∧ u.reg 1 ≠ t.reg 1 :=
  ⟨by decide, by decide +kernel, _, { setRegs launch [(1, 7)] with callStack := [⟨5, 0⟩] }, rfl, rfl, by decide +kernel⟩

theorem witness_BuiltinHasOneStorage :
    let s := { small with cfg := { small.cfg with builtinReg := ⟨some 199, none, some 198⟩ } }
    builtinMapped s .rtn ∧ builtinReg s.cfg.builtinReg .rtn = some 199 ∧ builtinReg s.cfg.builtinReg .nbf = none :=
  ⟨fun n h => by cases h; decide +kernel, rfl, rfl⟩

/-- A pending command found and missing, none pending, and a mode that does not admit a start. -/
theorem witness_EmptyScheduleStep :
    (let s := { launch with mem := headers, pending := some ⟨0x11, []⟩ };
      s.schedule = [] ∧ s.mode ≠ .running ∧ MayStart s.mode ∧ s.findSeq 0x11 = some 0x20 ∧ s.findSeq 0x12 = none) ∧
    (launch.schedule = [] ∧ launch.mode ≠ .running ∧ launch.pending = none) ∧ ¬MayStart .waitSlew :=
  ⟨⟨rfl, by decide, trivial, by decide +kernel, by decide +kernel⟩, ⟨rfl, by decide, rfl⟩, id⟩

end Sys2Proof.Tests
end

/-! PROOFS. `hk_seq_id` is written by SID only and read by no instruction (spec/10_state.md R21). Each instruction over its
operands but SID commutes with replacing the telemetry ID; that nothing but SID writes it follows, by replacing it with
itself. -/

namespace Sys2Proof.Machine

open Sys2Proof.Claims

/-- The state with another telemetry ID. -/
def State.withHkSeqId (s : State) (id : SeqId) : State := { s with hkSeqId := id }

/-- The operation neither reads nor writes the telemetry ID: from a state that differs in it alone it leaves a state that
differs in it alone. -/
def IgnoresHkSeqId (op : State → State) : Prop :=
  ∀ (s : State) (id : SeqId), op (s.withHkSeqId id) = (op s).withHkSeqId id

/-! ### The shared operations from a state with another telemetry ID -/

section
variable (s : State) (id : SeqId)

@[simp] theorem State.withHkSeqId_tables : (s.withHkSeqId id).tables = s.tables := rfl

@[simp] theorem State.withHkSeqId_val (k : Opnd) : (s.withHkSeqId id).val k = s.val k := by
  cases k <;> rfl

theorem State.withHkSeqId_ite {c : Prop} [Decidable c] {a a' b b' : State} (ha : a' = a.withHkSeqId id)
    (hb : b' = b.withHkSeqId id) : (if c then a' else b') = (if c then a else b).withHkSeqId id := by
  rw [ha, hb, apply_ite (fun t : State => t.withHkSeqId id)]

theorem State.withHkSeqId_withOperands (ops : List Opnd) {body body' : State} (hb : body' = body.withHkSeqId id) :
    (s.withHkSeqId id).withOperands ops body' = (s.withOperands ops body).withHkSeqId id := by
  cases hf : ops.findSome? s.badOperand with
  | none => rw [State.withOperands_ok s ops _ hf, State.withOperands_ok (s.withHkSeqId id) ops _ hf, hb]
  | some n =>
    rw [State.withOperands_bad s ops _ n hf, State.withOperands_bad (s.withHkSeqId id) ops _ n hf]
    rfl

theorem State.withHkSeqId_findSeq (q : SeqId) : (s.withHkSeqId id).findSeq q = s.findSeq q :=
  State.findSeq_congr s (s.withHkSeqId id) rfl rfl q

theorem State.withHkSeqId_loadRun (n d a : Nat) (regs : List Word) :
    (s.withHkSeqId id).loadRun n d a regs = s.loadRun n d a regs := by
  induction n generalizing d a regs with
  | zero => rfl
  | succ n ih => exact ih _ _ _

theorem State.withHkSeqId_setBuiltin (b : Builtin) (v : Word) :
    (s.withHkSeqId id).setBuiltin b v = (s.setBuiltin b v).withHkSeqId id := by
  simp only [State.setBuiltin, State.withHkSeqId]
  split
  · rfl
  · cases b <;> rfl

theorem State.withHkSeqId_startSeq (q : SeqId) :
    (s.withHkSeqId id).startSeq q = (s.startSeq q).withHkSeqId id := by
  cases hf : s.findSeq q with
  | none =>
    rw [State.startSeq_missing s q hf, State.startSeq_missing _ q ((s.withHkSeqId_findSeq id q).trans hf)]
    rfl
  | some a =>
    rw [State.startSeq_found s q a hf, State.startSeq_found _ q a ((s.withHkSeqId_findSeq id q).trans hf)]
    rfl

end

theorem State.endNormal_ignoresHkSeqId : IgnoresHkSeqId State.endNormal := by
  intro s id
  cases hs : s.callStack with
  | cons f fs =>
    rw [State.endNormal_return s f fs hs, State.endNormal_return (s.withHkSeqId id) f fs hs]
    rfl
  | nil =>
    cases hl : s.seqList with
    | nil =>
      rw [State.endNormal_idle s hs hl, State.endNormal_idle (s.withHkSeqId id) hs hl]
      rfl
    | cons q qs =>
      rw [State.endNormal_list s q qs hs hl, State.endNormal_list (s.withHkSeqId id) q qs hs hl]
      exact State.withHkSeqId_startSeq { s with seqList := qs } id q

/-! ### The instructions over their operands -/

theorem addOp_ignoresHkSeqId (rd : Reg) (a b : Opnd) : IgnoresHkSeqId (addOp rd a b) := fun s id =>
  s.withHkSeqId_withOperands id _ rfl

theorem subOp_ignoresHkSeqId (rd : Reg) (a b : Opnd) : IgnoresHkSeqId (subOp rd a b) := fun s id =>
  s.withHkSeqId_withOperands id _ rfl

theorem mulOp_ignoresHkSeqId (rd : Reg) (a b : Opnd) : IgnoresHkSeqId (mulOp rd a b) := fun s id =>
  s.withHkSeqId_withOperands id _ (State.withHkSeqId_ite id rfl rfl)

theorem divOp_ignoresHkSeqId (rd : Reg) (a b : Opnd) : IgnoresHkSeqId (divOp rd a b) := fun s id =>
  s.withHkSeqId_withOperands id _ (State.withHkSeqId_ite id rfl (State.withHkSeqId_ite id rfl rfl))

theorem incOp_ignoresHkSeqId (rd : Reg) : IgnoresHkSeqId (incOp rd) := fun s id =>
  s.withHkSeqId_withOperands id _ rfl

theorem decOp_ignoresHkSeqId (rd : Reg) : IgnoresHkSeqId (decOp rd) := fun s id =>
  s.withHkSeqId_withOperands id _ rfl

theorem setOp_ignoresHkSeqId (rd : Reg) (v : Opnd) : IgnoresHkSeqId (setOp rd v) := fun s id =>
  s.withHkSeqId_withOperands id _ rfl

theorem setregsOp_ignoresHkSeqId (d n : Opnd) : IgnoresHkSeqId (setregsOp d n) := by
  refine fun s id => s.withHkSeqId_withOperands id _
    (State.withHkSeqId_ite id rfl (State.withHkSeqId_ite id rfl ?_))
  rw [State.withHkSeqId_loadRun]
  rfl

theorem ldaOp_ignoresHkSeqId (rd : Reg) (a : Opnd) : IgnoresHkSeqId (ldaOp rd a) := fun s id =>
  s.withHkSeqId_withOperands id _ (State.withHkSeqId_ite id rfl rfl)

theorem ldrOp_ignoresHkSeqId (rd rp : Reg) : IgnoresHkSeqId (ldrOp rd rp) := fun s id =>
  s.withHkSeqId_withOperands id _ (State.withHkSeqId_ite id rfl (State.withHkSeqId_ite id rfl rfl))

/-- A branch whose condition does not depend on the telemetry ID. -/
theorem branchOp_ignoresHkSeqId (ops : List Opnd) (t : Opnd) (cond : State → Bool)
    (hcond : ∀ s id, cond (State.withHkSeqId s id) = cond s) :
    IgnoresHkSeqId (fun s => branchOp ops t (cond s) s) := by
  intro s id
  simp only [hcond]
  exact s.withHkSeqId_withOperands id _ (State.withHkSeqId_ite id rfl
    (State.withHkSeqId_ite id (State.withHkSeqId_ite id rfl rfl) rfl))

theorem frameOp_ignoresHkSeqId (fid : Opnd) : IgnoresHkSeqId (frameOp fid) := fun s id =>
  s.withHkSeqId_withOperands id _ (State.withHkSeqId_ite id rfl rfl)

theorem frmpfOp_ignoresHkSeqId (fid z fo : Opnd) : IgnoresHkSeqId (frmpfOp fid z fo) := fun s id =>
  s.withHkSeqId_withOperands id _ (State.withHkSeqId_ite id (State.withHkSeqId_ite id rfl rfl) rfl)

theorem sampOp_ignoresHkSeqId (amp off : Opnd) : IgnoresHkSeqId (sampOp amp off) := fun s id =>
  s.withHkSeqId_withOperands id _ rfl

theorem sttgOp_ignoresHkSeqId (lo hi : Opnd) : IgnoresHkSeqId (sttgOp lo hi) := by
  refine fun s id => s.withHkSeqId_withOperands id _ ?_
  simp only [State.withHkSeqId_tables, State.withHkSeqId_val]
  cases pctFind s.tables (pctKey (seqId (s.val lo) (s.val hi))) <;> rfl

/-- The state with other flare buffers. -/
def State.withFlare (s : State) (f : Flare) : State := { s with flare := f }

theorem State.withHkSeqId_withFlare (s : State) (id : SeqId) (f : Flare) :
    (s.withHkSeqId id).withFlare f = (s.withFlare f).withHkSeqId id := rfl

/-- LOCKBUF's update as the chain of its writes (R148). -/
theorem State.lockCurrent_eq (s : State) :
    s.lockCurrent =
      ((((s.withFlare (lockFlare s.flare)).setBuiltin .nbf
          (trunc16 (u16 ((s.withFlare (lockFlare s.flare)).builtin .nbf) - 1))).withFlare
        { lockFlare s.flare with current := (Config.nextAvailable (lockFlare s.flare)).1 }).setBuiltin .cbf
          (Config.nextAvailable (lockFlare s.flare)).2).emit .lockBuf := rfl

theorem State.lockCurrent_ignoresHkSeqId : IgnoresHkSeqId State.lockCurrent := by
  intro s id
  simp only [State.lockCurrent_eq, State.withHkSeqId_withFlare, State.withHkSeqId_setBuiltin]
  rfl

theorem lockbufOp_ignoresHkSeqId : IgnoresHkSeqId lockbufOp := by
  refine fun s id => State.withHkSeqId_ite id ?_ rfl
  rw [State.lockCurrent_ignoresHkSeqId]
  rfl

theorem resetaecOp_ignoresHkSeqId : IgnoresHkSeqId resetaecOp := fun _ _ => rfl

theorem startaveOp_ignoresHkSeqId : IgnoresHkSeqId startaveOp := fun _ _ => rfl

theorem updimaxOp_ignoresHkSeqId : IgnoresHkSeqId updimaxOp := fun _ _ => rfl

theorem cllOp_ignoresHkSeqId (lo hi : Opnd) : IgnoresHkSeqId (cllOp lo hi) := by
  refine fun s id => s.withHkSeqId_withOperands id _ (State.withHkSeqId_ite id rfl ?_)
  simp only [State.withHkSeqId_findSeq, State.withHkSeqId_val]
  cases s.findSeq (seqId (s.val lo) (s.val hi)) <;> rfl

theorem vidOp_ignoresHkSeqId (lo hi next : Opnd) : IgnoresHkSeqId (vidOp lo hi next) := fun s id =>
  s.withHkSeqId_withOperands id _ rfl

theorem exitOp_ignoresHkSeqId (v : Opnd) : IgnoresHkSeqId (exitOp v) := by
  refine fun s id => s.withHkSeqId_withOperands id _ ?_
  rw [State.withHkSeqId_setBuiltin, State.endNormal_ignoresHkSeqId]
  rfl

theorem termOp_ignoresHkSeqId : IgnoresHkSeqId termOp := fun _ _ => rfl

theorem abortOp_ignoresHkSeqId : IgnoresHkSeqId abortOp := fun _ _ => rfl

theorem waitOp_ignoresHkSeqId (n : Opnd) : IgnoresHkSeqId (waitOp n) := fun s id =>
  s.withHkSeqId_withOperands id _ rfl

theorem delayOp_ignoresHkSeqId (n : Opnd) : IgnoresHkSeqId (delayOp n) := fun s id =>
  s.withHkSeqId_withOperands id _ (State.withHkSeqId_ite id rfl rfl)

theorem srtOp_ignoresHkSeqId : IgnoresHkSeqId srtOp := fun _ _ => rfl

theorem timOp_ignoresHkSeqId (n : Opnd) : IgnoresHkSeqId (timOp n) := fun s id =>
  s.withHkSeqId_withOperands id _ (State.withHkSeqId_ite id rfl rfl)

theorem noopOp_ignoresHkSeqId : IgnoresHkSeqId noopOp := fun _ _ => rfl

/-- SID alone: what it leaves does not depend on the telemetry ID before it where it goes on, and keeps that ID where it
faults. -/
theorem sidOp_withHkSeqId (lo hi next : Opnd) (s : State) (id : SeqId) :
    sidOp lo hi next (s.withHkSeqId id) = (sidOp lo hi next s).withHkSeqId
      (if (sidOp lo hi next s).pc ≠ s.pc then (sidOp lo hi next s).hkSeqId else id) := by
  unfold sidOp
  cases hf : [lo, hi, next].findSome? s.badOperand with
  | none =>
    have hpc : s.npc [lo, hi, next] ≠ s.pc := by simp [State.npc]; omega
    rw [State.withOperands_ok s _ _ hf, State.withOperands_ok (s.withHkSeqId id) _ _ hf, if_pos hpc]
    rfl
  | some n =>
    rw [State.withOperands_bad s _ _ n hf, State.withOperands_bad (s.withHkSeqId id) _ _ n hf, if_neg (by simp)]
    rfl

/-! ### Every instruction -/

/-- The meaning of a SID, whatever its form. -/
theorem exec_of_isSid (i : Instr) (hsid : isSid i = true) :
    ∃ lo hi next, ∀ s, exec i s = .next (sidOp lo hi next s) := by
  cases i with
  | sidRRI a b c => exact ⟨.reg a, .reg b, .imm c, fun _ => rfl⟩
  | sidRII a b c => exact ⟨.reg a, .imm b, .imm c, fun _ => rfl⟩
  | sidIRI a b c => exact ⟨.imm a, .reg b, .imm c, fun _ => rfl⟩
  | sidIII a b c => exact ⟨.imm a, .imm b, .imm c, fun _ => rfl⟩
  | _ => cases hsid

/-- Every instruction but SID is an operation that ignores the telemetry ID. -/
theorem exec_of_not_isSid (i : Instr) (hsid : isSid i = false) :
    ∃ op, IgnoresHkSeqId op ∧ ∀ s, exec i s = .next (op s) := by
  cases i with
  | addRRR | addRRI | addRIR | addRII => exact ⟨_, addOp_ignoresHkSeqId _ _ _, fun _ => rfl⟩
  | subRRR | subRRI | subRIR | subRII => exact ⟨_, subOp_ignoresHkSeqId _ _ _, fun _ => rfl⟩
  | mulRRR | mulRRI | mulRIR | mulRII => exact ⟨_, mulOp_ignoresHkSeqId _ _ _, fun _ => rfl⟩
  | divRRR | divRRI | divRIR | divRII => exact ⟨_, divOp_ignoresHkSeqId _ _ _, fun _ => rfl⟩
  | incR => exact ⟨_, incOp_ignoresHkSeqId _, fun _ => rfl⟩
  | decR => exact ⟨_, decOp_ignoresHkSeqId _, fun _ => rfl⟩
  | beqRRR | beqRRI | beqARR | beqARI | bneRRR | bneRRI | bneARR | bneARI | bltRRR | bltRRI | bltARR | bltARI
  | bleRRR | bleRRI | bleARR | bleARI | bgtRRR | bgtRRI | bgtARR | bgtARI | bgeRRR | bgeRRI | bgeARR | bgeARI
  | bnzRR | bnzAR | bzRR | bzAR | ubrR | ubrA =>
    exact ⟨_, branchOp_ignoresHkSeqId _ _ _ (fun _ _ => rfl), fun _ => rfl⟩
  | cllRR | cllRI | cllIR | cllII => exact ⟨_, cllOp_ignoresHkSeqId _ _, fun _ => rfl⟩
  | sidRRI | sidRII | sidIRI | sidIII => cases hsid
  | vidIII => exact ⟨_, vidOp_ignoresHkSeqId _ _ _, fun _ => rfl⟩
  | ret => exact ⟨_, State.endNormal_ignoresHkSeqId, fun _ => rfl⟩
  | exitR | exitI => exact ⟨_, exitOp_ignoresHkSeqId _, fun _ => rfl⟩
  | term => exact ⟨_, termOp_ignoresHkSeqId, fun _ => rfl⟩
  | abort => exact ⟨_, abortOp_ignoresHkSeqId, fun _ => rfl⟩
  | waitR | waitI => exact ⟨_, waitOp_ignoresHkSeqId _, fun _ => rfl⟩
  | delayR | delayI => exact ⟨_, delayOp_ignoresHkSeqId _, fun _ => rfl⟩
  | srt => exact ⟨_, srtOp_ignoresHkSeqId, fun _ => rfl⟩
  | timR | timI => exact ⟨_, timOp_ignoresHkSeqId _, fun _ => rfl⟩
  | noop => exact ⟨_, noopOp_ignoresHkSeqId, fun _ => rfl⟩
  | setRR | setRI => exact ⟨_, setOp_ignoresHkSeqId _ _, fun _ => rfl⟩
  | setregsRR | setregsRI | setregsIR | setregsII => exact ⟨_, setregsOp_ignoresHkSeqId _ _, fun _ => rfl⟩
  | ldaRR | ldaRI => exact ⟨_, ldaOp_ignoresHkSeqId _ _, fun _ => rfl⟩
  | ldrRR => exact ⟨_, ldrOp_ignoresHkSeqId _ _, fun _ => rfl⟩
  | frameR | frameI => exact ⟨_, frameOp_ignoresHkSeqId _, fun _ => rfl⟩
  | frmpfRRR | frmpfRRI | frmpfRIR | frmpfRII | frmpfIRR | frmpfIRI | frmpfIIR | frmpfIII =>
    exact ⟨_, frmpfOp_ignoresHkSeqId _ _ _, fun _ => rfl⟩
  | sampRR | sampRI | sampIR | sampII => exact ⟨_, sampOp_ignoresHkSeqId _ _, fun _ => rfl⟩
  | sttgRR | sttgRI | sttgIR | sttgII => exact ⟨_, sttgOp_ignoresHkSeqId _ _, fun _ => rfl⟩
  | lockbuf => exact ⟨_, lockbufOp_ignoresHkSeqId, fun _ => rfl⟩
  | resetaec => exact ⟨_, resetaecOp_ignoresHkSeqId, fun _ => rfl⟩
  | startave => exact ⟨_, startaveOp_ignoresHkSeqId, fun _ => rfl⟩
  | updimax => exact ⟨_, updimaxOp_ignoresHkSeqId, fun _ => rfl⟩

/-- No instruction reads the telemetry ID. -/
theorem exec_withHkSeqId (i : Instr) (s : State) (id : SeqId) :
    exec i (s.withHkSeqId id) = mapNext (fun t => t.withHkSeqId
      (if isSid i = true ∧ t.pc ≠ s.pc then t.hkSeqId else id)) (exec i s) := by
  cases hsid : isSid i with
  | false =>
    obtain ⟨op, hop, hexec⟩ := exec_of_not_isSid i hsid
    simp [hexec, mapNext, hop s id]
  | true =>
    obtain ⟨lo, hi, next, hexec⟩ := exec_of_isSid i hsid
    simp [hexec, mapNext, sidOp_withHkSeqId]

/-- An instruction that changes the telemetry ID is a SID, and reports the ID it writes. -/
theorem exec_changes_hkSeqId (i : Instr) (s t : State) (h : exec i s = .next t) (hne : t.hkSeqId ≠ s.hkSeqId) :
    isSid i = true ∧ t.trace = s.trace ++ [.telemetry t.hkSeqId] := by
  cases hsid : isSid i with
  | false =>
    obtain ⟨op, hop, hexec⟩ := exec_of_not_isSid i hsid
    obtain rfl : op s = t := by simpa [hexec] using h
    have hkeep : op s = (op s).withHkSeqId s.hkSeqId := hop s s.hkSeqId
    exact absurd (congrArg State.hkSeqId hkeep) hne
  | true =>
    obtain ⟨lo, hi, next, hexec⟩ := exec_of_isSid i hsid
    obtain rfl : sidOp lo hi next s = t := by simpa [hexec] using h
    refine ⟨rfl, ?_⟩
    revert hne
    exact sidOp_elim (fun t => t.hkSeqId ≠ s.hkSeqId → t.trace = s.trace ++ [.telemetry t.hkSeqId]) lo hi next s
      (fun _ hne => absurd rfl hne) (fun _ _ => rfl)

/-! ### The steps that execute no instruction -/

theorem State.startSeq_hkSeqId (s : State) (q : SeqId) : (s.startSeq q).hkSeqId = s.hkSeqId :=
  State.startSeq_elim (fun t => t.hkSeqId = s.hkSeqId) s q (fun _ => rfl) (fun _ _ => rfl)

theorem State.tick_hkSeqId (s : State) : s.tick.hkSeqId = s.hkSeqId := by
  simp only [State.tick]
  split
  · rfl
  · rfl
  · split <;> rfl
  · rfl

theorem State.setLobt_hkSeqId (s : State) (v : Nat) : (s.setLobt v).hkSeqId = s.hkSeqId := by
  unfold State.setLobt
  split
  · split <;> rfl
  · rfl

theorem State.envWrite_hkSeqId (s : State) (w : EnvWrite) : (s.envWrite w).hkSeqId = s.hkSeqId := by
  cases w with
  | nbf v => exact s.setBuiltin_hkSeqId .nbf v
  | cbf v => exact s.setBuiltin_hkSeqId .cbf v
  | _ => rfl

theorem State.fetchFailed_hkSeqId (s : State) (e : Rejection) : (s.fetchFailed e).hkSeqId = s.hkSeqId := by
  cases e <;> rfl

/-- No event of the environment and no start of a command writes the telemetry ID. -/
theorem State.event_hkSeqId (s t : State) (a : Action) (h : s.event a = some t) : t.hkSeqId = s.hkSeqId := by
  cases a with
  | exec => cases h
  | startPending =>
    obtain ⟨-, c, -, rfl⟩ : s.mode.admitsStart = true ∧ ∃ c, s.pending = some c ∧ s.startCommand c = t := by
      simpa [State.event] using h
    exact State.startSeq_hkSeqId _ _
  | tick => cases h; exact s.tick_hkSeqId
  | lobt v =>
    obtain ⟨-, rfl⟩ : s.lobt ≤ v ∧ s.setLobt v = t := by simpa [State.event] using h
    exact s.setLobt_hkSeqId v
  | frameDone r =>
    obtain ⟨-, rfl⟩ : s.mode = .waitFrame ∧ { s with mode := .running } = t := by simpa [State.event] using h
    rfl
  | slewDone =>
    obtain ⟨-, rfl⟩ : s.mode = .waitSlew ∧ { s with mode := .running } = t := by simpa [State.event] using h
    rfl
  | newSequence c => cases h; rfl
  | envWrite w => cases h; exact s.envWrite_hkSeqId w

/-- A step that changes the telemetry ID executes a SID, which reports the ID it writes. -/
theorem step_changes_hkSeqId (s t : State) (h : step s = .next t) (hne : t.hkSeqId ≠ s.hkSeqId) :
    s.mode = .running ∧ ∃ i, s.fetch = .ok i ∧ isSid i = true ∧ t.trace = s.trace ++ [.telemetry t.hkSeqId] := by
  obtain ⟨hmode, hexec, -⟩ | ⟨a, -, hevent, -⟩ := step_cases s t h
  · obtain ⟨i, hfetch, hi⟩ | ⟨e, -, rfl⟩ := execStep_cases _ _ hexec
    · exact ⟨hmode, i, hfetch, exec_changes_hkSeqId i s.popped t hi hne⟩
    · exact absurd (s.popped.fetchFailed_hkSeqId e) hne
  · exact absurd (s.popped.event_hkSeqId t a hevent) hne

/-- Settles O47: a step that changes the telemetry ID is a SID's, and every instruction commutes with replacing it. -/
theorem telemetryIdWrittenBySidOnly : Obligations.TelemetryIdWrittenBySidOnly :=
  ⟨step_changes_hkSeqId, exec_withHkSeqId⟩

end Sys2Proof.Machine

/-! PROOFS. VID (spec/42_sequence_control.md R98): the opcode E1 with three 2-byte immediates, and the advance of the pc
alone. An instruction with three immediates is read from its six operand bytes two at a time, so bytes that end early are
reported at the operand they end in. -/

namespace Sys2Proof.Machine

open Sys2Proof.Claims

/-! ### Reading an instruction with three immediates -/

/-- Decoding starts with the row of the opcode byte and goes on with the operands of that row (R50). -/
theorem decode_cons_of_rowOf {c : Config} {op : Byte} {row : Row} (hrow : rowOf c op = .ok row) (bs : List Byte) :
    decode c (op :: bs) = readOperands c.byteOrder row bs := by
  simp only [decode, hrow]

/-- The operand bytes of an instruction with three immediates. -/
def immBytes (o : ByteOrder) (u v w : Word) : List Byte :=
  [firstByte o u, secondByte o u, firstByte o v, secondByte o v, firstByte o w, secondByte o w]

theorem encode_of_operands_imm {i : Instr} {u v w : Word} (hops : i.operands = [.imm u, .imm v, .imm w]) (c : Config) :
    encode c i = i.opcode c :: immBytes c.byteOrder u v w := by
  rw [encode, hops]
  rfl

theorem readOperands_immBytes (o : ByteOrder) (mk : Word → Word → Word → Instr) (u v w : Word) (rest : List Byte) :
    readOperands o (.rIII mk) (immBytes o u v w ++ rest) = .ok (mk u v w, rest) := by
  simp [readOperands, immBytes]

/-- Where the operand bytes end early, the read that fails is that of the operand the missing byte belongs to. -/
theorem readOperands_immBytes_take (o : ByteOrder) (mk : Word → Word → Word → Instr) (u v w : Word) (n : Nat)
    (hn : n < 6) :
    readOperands o (.rIII mk) ((immBytes o u v w).take n) = .error (.short (1 + 2 * (n / 2))) := by
  match n, hn with
  | 0, _ | 1, _ => rfl
  | 2, _ | 3, _ => rfl
  | 4, _ | 5, _ => rfl

/-- An instruction with three immediates that the opcode map gives a row of its own is encoded in seven bytes. -/
theorem encodedAs_of_rIII {mk : Word → Word → Word → Instr} {op : Byte} {u v w : Word}
    (hops : (mk u v w).operands = [.imm u, .imm v, .imm w]) (hop : ∀ c, (mk u v w).opcode c = op)
    (hrow : ∀ c, rowOf c op = .ok (.rIII mk)) : EncodedAs (mk u v w) op 7 := by
  intro c _ _
  have henc : encode c (mk u v w) = op :: immBytes c.byteOrder u v w := by
    rw [encode_of_operands_imm hops, hop]
  rw [henc]
  refine ⟨rfl, rfl, fun rest => ?_, fun k hk => ?_⟩
  · rw [List.cons_append, decode_cons_of_rowOf (hrow c), readOperands_immBytes]
  · cases k with
    | zero => exact ⟨0, le_rfl, rfl⟩
    | succ n =>
      refine ⟨1 + 2 * (n / 2), by omega, ?_⟩
      rw [List.take_succ_cons, decode_cons_of_rowOf (hrow c), readOperands_immBytes_take _ _ _ _ _ _ (by omega)]

/-! ### VID -/

theorem vidIII_encodedAs (u v w : Word) : EncodedAs (.vidIII u v w) 0xE1 7 :=
  encodedAs_of_rIII rfl (fun _ => rfl) (fun _ => rfl)

/-- VID over three immediates reads no register, so it cannot fault. -/
theorem vidOp_imm (u v w : Word) (s : State) :
    vidOp (.imm u) (.imm v) (.imm w) s = { s with pc := s.pc + 7 } :=
  State.withOperands_ok s _ _ rfl

theorem exec_vidIII (u v w : Word) (s : State) :
    exec (.vidIII u v w) s = .next (vidOp (.imm u) (.imm v) (.imm w) s) := rfl

/-- Settles O12: E1 heads a row of three immediates under every configuration, and VID over immediates is the step over
them. -/
theorem vidOnlyAdvancesPc : Obligations.VidOnlyAdvancesPc := fun u v w =>
  ⟨vidIII_encodedAs u v w, fun s => by rw [exec_vidIII, vidOp_imm]⟩

end Sys2Proof.Machine

/-! PROOFS. SRT and NOOP, the time related instructions without operands (spec/43_time.md R120, R122). -/

namespace Sys2Proof.Machine

open Sys2Proof.Claims

/-! ### Reading an instruction without operands -/

theorem encode_of_operands_nil {i : Instr} (hops : i.operands = []) (c : Config) : encode c i = [i.opcode c] := by
  rw [encode, hops, List.flatMap_nil]

/-- An instruction without operands that the opcode map gives a row of its own is encoded in its opcode byte: nothing
after that byte is read, and only with no byte at all does a read fail. -/
theorem encodedAs_of_rNone {i : Instr} {op : Byte} (hops : i.operands = []) (hop : ∀ c, i.opcode c = op)
    (hrow : ∀ c, rowOf c op = .ok (.rNone i)) : EncodedAs i op 1 := by
  intro c _ _
  have henc : encode c i = [op] := by rw [encode_of_operands_nil hops, hop]
  rw [henc]
  refine ⟨rfl, rfl, fun rest => ?_, fun k hk => ?_⟩
  · rw [List.singleton_append, decode_cons_of_rowOf (hrow c)]
    rfl
  · obtain rfl : k = 0 := by omega
    exact ⟨0, le_rfl, rfl⟩

/-- The instruction after one without operands stands at the next byte. -/
@[simp] theorem State.npc_nil (s : State) : s.npc [] = s.pc + 1 := rfl

/-! ### SRT -/

theorem srt_encodedAs : EncodedAs .srt 0xE8 1 :=
  encodedAs_of_rNone rfl (fun _ => rfl) (fun _ => rfl)

theorem srtOp_eq (s : State) : srtOp s = { s with refTime := s.lobt, pc := s.pc + 1 } := by
  rw [srtOp, State.npc_nil]

theorem exec_srt (s : State) : exec .srt s = .next (srtOp s) := rfl

/-- Settles O18: E8 heads a row without operands under every configuration, and SRT copies LOBT to the reference time. -/
theorem srtSetsReferenceTime : Obligations.SrtSetsReferenceTime :=
  ⟨srt_encodedAs, fun s => by rw [exec_srt, srtOp_eq]⟩

/-! ### NOOP -/

theorem noop_encodedAs : EncodedAs .noop 0xFF 1 :=
  encodedAs_of_rNone rfl (fun _ => rfl) (fun _ => rfl)

theorem noopOp_eq (s : State) : noopOp s = { s with pc := s.pc + 1 } := by
  rw [noopOp, State.npc_nil]

theorem exec_noop (s : State) : exec .noop s = .next (noopOp s) := rfl

/-- Settles O20: FF heads a row without operands under every configuration, and NOOP only goes on to the next byte. -/
theorem noopOnlyAdvancesPc : Obligations.NoopOnlyAdvancesPc :=
  ⟨noop_encodedAs, fun s => by rw [exec_noop, noopOp_eq]⟩

end Sys2Proof.Machine

/-! PROOFS. RESETAEC (spec/45_observing.md R149): the opcode EE without operands, and the copy of the default exposure levels
onto the current ones. -/

namespace Sys2Proof.Machine

open Sys2Proof.Claims

theorem resetaec_encodedAs : EncodedAs .resetaec 0xEE 1 :=
  encodedAs_of_rNone rfl (fun _ => rfl) (fun _ => rfl)

/-- RESETAEC replaces the current levels as a whole, by the vector of the defaults. -/
theorem resetaecOp_eq (s : State) :
    resetaecOp s = { s with aecCur := s.aecDef, trace := s.trace ++ [.resetAec], pc := s.pc + 1 } := by
  rw [resetaecOp, State.npc_nil, State.emit]

theorem exec_resetaec (s : State) : exec .resetaec s = .next (resetaecOp s) := rfl

/-- Settles O30: EE heads a row without operands under every configuration, and the levels RESETAEC leaves are the defaults
themselves. -/
theorem resetaecCopiesDefaults : Obligations.ResetaecCopiesDefaults :=
  ⟨resetaec_encodedAs, fun s => ⟨s.aecDef, fun _ => rfl, by rw [exec_resetaec, resetaecOp_eq]⟩⟩

end Sys2Proof.Machine

/-! PROOFS. The decoder and the encoder are inverse to each other (spec/30_encoding.md R50 to R63). What a row of the opcode
map reads is put together from the reads of its operands, so that one induction over those reads says what any row answers
to complete bytes and to bytes that end early. -/

namespace Sys2Proof

open Sys2Proof.Claims

/-! ### What the reads of operands answer -/

/-- Nothing is left to read: the instruction is made. -/
inductive MakesNone (i : Instr) : List Opnd → Instr → Prop
  | intro : MakesNone i [] i

/-- A register byte, then what is made of it. -/
inductive MakesReg (M : Reg → List Opnd → Instr → Prop) : List Opnd → Instr → Prop
  | intro {r : Reg} {ops : List Opnd} {i : Instr} : M r ops i → MakesReg M (.reg r :: ops) i

/-- A 2-byte operand, then what is made of it; an address is read as an immediate is (R52). -/
inductive MakesWord (M : Word → List Opnd → Instr → Prop) : List Opnd → Instr → Prop
  | intro {w : Word} {ops : List Opnd} {i : Instr} : M w ops i → MakesWord M (.imm w :: ops) i

/-- Which instruction a row makes of which operands. -/
def Row.Makes : Row → List Opnd → Instr → Prop
  | .rNone i => MakesNone i
  | .rR mk => MakesReg fun a => MakesNone (mk a)
  | .rI mk => MakesWord fun a => MakesNone (mk a)
  | .rRR mk => MakesReg fun a => MakesReg fun b => MakesNone (mk a b)
  | .rRI mk => MakesReg fun a => MakesWord fun b => MakesNone (mk a b)
  | .rIR mk => MakesWord fun a => MakesReg fun b => MakesNone (mk a b)
  | .rII mk => MakesWord fun a => MakesWord fun b => MakesNone (mk a b)
  | .rRRR mk => MakesReg fun a => MakesReg fun b => MakesReg fun d => MakesNone (mk a b d)
  | .rRRI mk => MakesReg fun a => MakesReg fun b => MakesWord fun d => MakesNone (mk a b d)
  | .rRIR mk => MakesReg fun a => MakesWord fun b => MakesReg fun d => MakesNone (mk a b d)
  | .rRII mk => MakesReg fun a => MakesWord fun b => MakesWord fun d => MakesNone (mk a b d)
  | .rIRR mk => MakesWord fun a => MakesReg fun b => MakesReg fun d => MakesNone (mk a b d)
  | .rIRI mk => MakesWord fun a => MakesReg fun b => MakesWord fun d => MakesNone (mk a b d)
  | .rIIR mk => MakesWord fun a => MakesWord fun b => MakesReg fun d => MakesNone (mk a b d)
  | .rIII mk => MakesWord fun a => MakesWord fun b => MakesWord fun d => MakesNone (mk a b d)

/-- The function reads operands one after the other from this offset on, and makes these instructions of them. -/
inductive Reader (o : ByteOrder) : Nat → (List Byte → Decoded) → (List Opnd → Instr → Prop) → Prop
  | done {off : Nat} {i : Instr} : Reader o off (fun bs => .ok (i, bs)) (MakesNone i)
  | reg {off : Nat} {k : Reg → List Byte → Decoded} {M : Reg → List Opnd → Instr → Prop} :
      (∀ r, Reader o (off + 1) (k r) (M r)) → Reader o off (fun bs => takeR off bs k) (MakesReg M)
  | word {off : Nat} {k : Word → List Byte → Decoded} {M : Word → List Opnd → Instr → Prop} :
      (∀ w, Reader o (off + 2) (k w) (M w)) → Reader o off (fun bs => takeW o off bs k) (MakesWord M)

theorem Row.reader (o : ByteOrder) (row : Row) : Reader o 1 (readOperands o row) row.Makes := by
  cases row with
  | rNone => exact .done
  | rR => exact .reg fun _ => .done
  | rI => exact .word fun _ => .done
  | rRR => exact .reg fun _ => .reg fun _ => .done
  | rRI => exact .reg fun _ => .word fun _ => .done
  | rIR => exact .word fun _ => .reg fun _ => .done
  | rII => exact .word fun _ => .word fun _ => .done
  | rRRR => exact .reg fun _ => .reg fun _ => .reg fun _ => .done
  | rRRI => exact .reg fun _ => .reg fun _ => .word fun _ => .done
  | rRIR => exact .reg fun _ => .word fun _ => .reg fun _ => .done
  | rRII => exact .reg fun _ => .word fun _ => .word fun _ => .done
  | rIRR => exact .word fun _ => .reg fun _ => .reg fun _ => .done
  | rIRI => exact .word fun _ => .reg fun _ => .word fun _ => .done
  | rIIR => exact .word fun _ => .word fun _ => .reg fun _ => .done
  | rIII => exact .word fun _ => .word fun _ => .word fun _ => .done

/-- A read that makes an instruction has read the bytes of its operands, and leaves the rest. -/
theorem Reader.bytes_of_ok {o : ByteOrder} {off : Nat} {read : List Byte → Decoded} {M : List Opnd → Instr → Prop}
    (h : Reader o off read M) : ∀ {bs rest : List Byte} {i : Instr}, read bs = .ok (i, rest) →
      ∃ ops, M ops i ∧ bs = ops.flatMap (Opnd.bytes o) ++ rest := by
  induction h with
  | done =>
    intro bs rest i hok
    cases hok
    exact ⟨[], .intro, rfl⟩
  | reg _ ih =>
    intro bs rest i hok
    match bs, hok with
    | r :: bs, hok =>
      obtain ⟨ops, hm, rfl⟩ := ih r hok
      exact ⟨.reg r :: ops, .intro hm, rfl⟩
  | word _ ih =>
    intro bs rest i hok
    match bs, hok with
    | b0 :: b1 :: bs, hok =>
      obtain ⟨ops, hm, rfl⟩ := ih (wordOf o b0 b1) hok
      exact ⟨.imm (wordOf o b0 b1) :: ops, .intro hm, by simp [Opnd.bytes]⟩

/-- The bytes of the operands are read back. -/
theorem Reader.ok_of_bytes {o : ByteOrder} {off : Nat} {read : List Byte → Decoded} {M : List Opnd → Instr → Prop}
    (h : Reader o off read M) : ∀ {ops : List Opnd} {i : Instr}, M ops i → ∀ rest,
      read (ops.flatMap (Opnd.bytes o) ++ rest) = .ok (i, rest) := by
  induction h with
  | done =>
    intro ops i hm rest
    cases hm
    rfl
  | reg _ ih =>
    intro ops i hm rest
    cases hm with
    | intro hm => exact ih _ hm rest
  | word _ ih =>
    intro ops i hm rest
    cases hm with
    | intro hm => simpa [Opnd.bytes] using ih _ hm rest

/-- With fewer bytes than the operands take, the read that fails is at an offset those bytes reach. -/
theorem Reader.short_of_take {o : ByteOrder} {off : Nat} {read : List Byte → Decoded} {M : List Opnd → Instr → Prop}
    (h : Reader o off read M) : ∀ {ops : List Opnd} {i : Instr}, M ops i →
      ∀ n < (ops.flatMap (Opnd.bytes o)).length,
        ∃ x ≤ off + n, read ((ops.flatMap (Opnd.bytes o)).take n) = .error (.short x) := by
  induction h with
  | done =>
    intro ops i hm n hn
    cases hm
    simp at hn
  | reg _ ih =>
    intro ops i hm n hn
    cases hm with
    | intro hm =>
      match n with
      | 0 => exact ⟨_, le_rfl, rfl⟩
      | n + 1 =>
        obtain ⟨x, hx, hshort⟩ := ih _ hm n (by simpa [Opnd.bytes] using hn)
        exact ⟨x, by omega, hshort⟩
  | word _ ih =>
    intro ops i hm n hn
    cases hm with
    | intro hm =>
      match n with
      | 0 => exact ⟨_, le_rfl, rfl⟩
      | 1 => exact ⟨_, Nat.le_succ _, rfl⟩
      | n + 2 =>
        obtain ⟨x, hx, hshort⟩ := ih _ hm n (by simpa [Opnd.bytes] using hn)
        exact ⟨x, by omega, by simpa [Opnd.bytes] using hshort⟩

/-! ### The row of an instruction's opcode makes the instruction -/

/-- The row makes the instruction of operands that are the instruction's own, byte for byte. -/
def Row.MakesOf (row : Row) (i : Instr) : Prop :=
  ∃ ops, row.Makes ops i ∧ ∀ o, ops.flatMap (Opnd.bytes o) = i.operands.flatMap (Opnd.bytes o)

theorem rowOf_83 (c : Config) : rowOf c 0x83 = row83 c (.rRR .setregsRR) (.rRR .sttgRR) := rfl

theorem rowOf_87 (c : Config) : rowOf c 0x87 = row83 c (.rRI .setregsRI) (.rRI .sttgRI) := rfl

theorem rowOf_8B (c : Config) : rowOf c 0x8B = row83 c (.rIR .setregsIR) (.rIR .sttgIR) := rfl

theorem rowOf_8F (c : Config) : rowOf c 0x8F = row83 c (.rII .setregsII) (.rII .sttgII) := rfl

theorem rowOf_C2 (c : Config) : rowOf c 0xC2 = rowC2 c := rfl

/-- Where SETREGS owns the contested bytes, they are its rows (R60). -/
theorem row83_of_setregsEncoded {c : Config} (h : c.setregsEncoded = true) (r r' : Row) : row83 c r r' = .ok r := by
  have h83 : c.opc83 = .setregs := by simpa [Config.setregsEncoded] using h
  simp only [row83, h83]

theorem rowC2_of_ubrRegEncoded {c : Config} (h : c.ubrRegEncoded = true) : rowC2 c = .ok (.rR .ubrR) := by
  have hc2 : c.ubrC2 = .reg := by simpa [Config.ubrRegEncoded] using h
  simp only [rowC2, hc2]

/-- `P_STTG_OPCODES` in range: bytes without a row of their own, none of them twice. -/
theorem SttgOpcodes.wf_iff (q : SttgOpcodes) : q.wf = true ↔
    (∀ b ∈ [q.rr, q.ri, q.ir, q.ii], assignedOpcodes.contains b = false) ∧ [q.rr, q.ri, q.ir, q.ii].Nodup := by
  simp only [SttgOpcodes.wf, Bool.and_eq_true, List.all_eq_true, Bool.not_eq_true', decide_eq_true_eq]

theorem Config.sttgOpcodes_wf {c : Config} (h : c.wf = true) {q : SttgOpcodes} (hq : c.sttgOpcodes = some q) :
    q.wf = true := by
  simp only [Config.wf, hq, Bool.and_eq_true, Option.all_some] at h
  exact h.2

/-- The bytes of `P_STTG_OPCODES` have STTG's rows (R60). -/
theorem rowOf_own_sttg {c : Config} (hwf : c.wf = true) {q : SttgOpcodes} (hq : c.sttgOpcodes = some q) :
    rowOf c q.rr = .ok (.rRR .sttgRR) ∧ rowOf c q.ri = .ok (.rRI .sttgRI) ∧ rowOf c q.ir = .ok (.rIR .sttgIR) ∧
      rowOf c q.ii = .ok (.rII .sttgII) := by
  obtain ⟨hfree, hnodup⟩ := q.wf_iff.mp (Config.sttgOpcodes_wf hwf hq)
  have hrow : ∀ b ∈ [q.rr, q.ri, q.ir, q.ii], rowOf c b = extraRow c b := fun b hb => rowOf_unassigned c b (hfree b hb)
  rw [hrow q.rr (by simp), hrow q.ri (by simp), hrow q.ir (by simp), hrow q.ii (by simp)]
  simp only [List.nodup_cons, List.mem_cons, List.not_mem_nil, or_false, not_or] at hnodup
  obtain ⟨⟨h1, h2, h3⟩, ⟨h4, h5⟩, h6, -⟩ := hnodup
  simp [extraRow, hq, Ne.symm h1, Ne.symm h2, Ne.symm h3, Ne.symm h4, Ne.symm h5, Ne.symm h6]

theorem row83_of_sttg {c : Config} (h : c.opc83 = .sttg) (r r' : Row) : row83 c r r' = .ok r' := by
  simp only [row83, h]

theorem sttgByte_contested {c : Config} (h : c.opc83 = .sttg) (contested : Byte) (own : SttgOpcodes → Byte) :
    sttgByte c contested own = contested := by
  simp [sttgByte, h]

theorem sttgByte_own {c : Config} (h : c.opc83 ≠ .sttg) {q : SttgOpcodes} (hq : c.sttgOpcodes = some q)
    (contested : Byte) (own : SttgOpcodes → Byte) : sttgByte c contested own = own q := by
  unfold sttgByte
  split <;> simp_all

/-- Where STTG has an encoding, the byte it is written with has its row: the contested one, or else the one of
`P_STTG_OPCODES` (R60). -/
theorem rowOf_sttgByte {c : Config} (hwf : c.wf = true) (henc : c.sttgEncoded = true) :
    rowOf c (sttgByte c 0x83 (·.rr)) = .ok (.rRR .sttgRR) ∧ rowOf c (sttgByte c 0x87 (·.ri)) = .ok (.rRI .sttgRI) ∧
      rowOf c (sttgByte c 0x8B (·.ir)) = .ok (.rIR .sttgIR) ∧ rowOf c (sttgByte c 0x8F (·.ii)) = .ok (.rII .sttgII) := by
  by_cases h : c.opc83 = .sttg
  · simp only [sttgByte_contested h, rowOf_83, rowOf_87, rowOf_8B, rowOf_8F, row83_of_sttg h, and_self]
  · obtain ⟨q, hq⟩ : ∃ q, c.sttgOpcodes = some q := by
      simpa [Config.sttgEncoded, h, Option.isSome_iff_exists] using henc
    simp only [sttgByte_own h hq]
    exact rowOf_own_sttg hwf hq

/-- An instruction with three operands has a row of its own. -/
theorem Instr.row_exists_of_three_operands (c : Config) (i : Instr) (hi : i.operands.length = 3) :
    ∃ row, rowOf c (i.opcode c) = .ok row ∧ row.MakesOf i := by
  cases i with
  | addRRR | subRRR | mulRRR | divRRR | beqRRR | bneRRR | bltRRR | bleRRR | bgtRRR | bgeRRR | frmpfRRR =>
    exact ⟨_, rfl, _, .intro (.intro (.intro .intro)), fun _ => rfl⟩
  | addRRI | subRRI | mulRRI | divRRI | beqRRI | bneRRI | bltRRI | bleRRI | bgtRRI | bgeRRI | sidRRI | frmpfRRI =>
    exact ⟨_, rfl, _, .intro (.intro (.intro .intro)), fun _ => rfl⟩
  | addRIR | subRIR | mulRIR | divRIR | frmpfRIR => exact ⟨_, rfl, _, .intro (.intro (.intro .intro)), fun _ => rfl⟩
  | addRII | subRII | mulRII | divRII | sidRII | frmpfRII =>
    exact ⟨_, rfl, _, .intro (.intro (.intro .intro)), fun _ => rfl⟩
  | beqARR | bneARR | bltARR | bleARR | bgtARR | bgeARR | frmpfIRR =>
    exact ⟨_, rfl, _, .intro (.intro (.intro .intro)), fun _ => rfl⟩
  | beqARI | bneARI | bltARI | bleARI | bgtARI | bgeARI | sidIRI | frmpfIRI =>
    exact ⟨_, rfl, _, .intro (.intro (.intro .intro)), fun _ => rfl⟩
  | frmpfIIR | sidIII | vidIII | frmpfIII => exact ⟨_, rfl, _, .intro (.intro (.intro .intro)), fun _ => rfl⟩
  | _ => cases hi

/-- The opcode byte of a well-formed instruction selects a row that makes it. -/
theorem Instr.row_exists {c : Config} (hwf : c.wf = true) (i : Instr) (hi : i.wellFormed c = true) :
    ∃ row, rowOf c (i.opcode c) = .ok row ∧ row.MakesOf i := by
  by_cases hthree : i.operands.length = 3
  · exact i.row_exists_of_three_operands c hthree
  cases i with
  | ret | term | abort | srt | noop | lockbuf | resetaec | startave | updimax =>
    exact ⟨_, rfl, _, .intro, fun _ => rfl⟩
  | incR | decR | exitR | waitR | delayR | timR | frameR => exact ⟨_, rfl, _, .intro .intro, fun _ => rfl⟩
  | ubrA | exitI | waitI | delayI | timI | frameI => exact ⟨_, rfl, _, .intro .intro, fun _ => rfl⟩
  | bnzRR | bzRR | cllRR | setRR | ldaRR | ldrRR | sampRR => exact ⟨_, rfl, _, .intro (.intro .intro), fun _ => rfl⟩
  | cllRI | setRI | ldaRI | sampRI => exact ⟨_, rfl, _, .intro (.intro .intro), fun _ => rfl⟩
  | bnzAR | bzAR | cllIR | sampIR => exact ⟨_, rfl, _, .intro (.intro .intro), fun _ => rfl⟩
  | cllII | sampII => exact ⟨_, rfl, _, .intro (.intro .intro), fun _ => rfl⟩
  | ubrR => exact ⟨_, (rowOf_C2 c).trans (rowC2_of_ubrRegEncoded hi), _, .intro .intro, fun _ => rfl⟩
  | setregsRR =>
    exact ⟨_, (rowOf_83 c).trans (row83_of_setregsEncoded hi _ _), _, .intro (.intro .intro), fun _ => rfl⟩
  | setregsRI =>
    exact ⟨_, (rowOf_87 c).trans (row83_of_setregsEncoded hi _ _), _, .intro (.intro .intro), fun _ => rfl⟩
  | setregsIR =>
    exact ⟨_, (rowOf_8B c).trans (row83_of_setregsEncoded hi _ _), _, .intro (.intro .intro), fun _ => rfl⟩
  | setregsII =>
    exact ⟨_, (rowOf_8F c).trans (row83_of_setregsEncoded hi _ _), _, .intro (.intro .intro), fun _ => rfl⟩
  | sttgRR =>
    obtain ⟨hrow, -, -, -⟩ := rowOf_sttgByte hwf hi
    exact ⟨_, hrow, _, .intro (.intro .intro), fun _ => rfl⟩
  | sttgRI =>
    obtain ⟨-, hrow, -, -⟩ := rowOf_sttgByte hwf hi
    exact ⟨_, hrow, _, .intro (.intro .intro), fun _ => rfl⟩
  | sttgIR =>
    obtain ⟨-, -, hrow, -⟩ := rowOf_sttgByte hwf hi
    exact ⟨_, hrow, _, .intro (.intro .intro), fun _ => rfl⟩
  | sttgII =>
    obtain ⟨-, -, -, hrow⟩ := rowOf_sttgByte hwf hi
    exact ⟨_, hrow, _, .intro (.intro .intro), fun _ => rfl⟩
  | _ => exact absurd rfl hthree

/-! ### Decoding what was encoded -/

theorem decode_encode {c : Config} (hwf : c.wf = true) (i : Instr) (hi : i.wellFormed c = true) (rest : List Byte) :
    decode c (encode c i ++ rest) = .ok (i, rest) := by
  obtain ⟨row, hrow, ops, hmakes, hbytes⟩ := i.row_exists hwf hi
  rw [encode, List.cons_append, Machine.decode_cons_of_rowOf hrow, ← hbytes]
  exact (row.reader c.byteOrder).ok_of_bytes hmakes rest

/-- Bytes that end before the instruction does end in a read at an offset they reach. -/
theorem decode_take_encode {c : Config} (hwf : c.wf = true) (i : Instr) (hi : i.wellFormed c = true) (k : Nat)
    (hk : k < (encode c i).length) : ∃ off ≤ k, decode c ((encode c i).take k) = .error (.short off) := by
  obtain ⟨row, hrow, ops, hmakes, hbytes⟩ := i.row_exists hwf hi
  rw [encode, ← hbytes] at hk ⊢
  cases k with
  | zero => exact ⟨0, le_rfl, rfl⟩
  | succ n =>
    rw [List.take_succ_cons, Machine.decode_cons_of_rowOf hrow, Nat.add_comm n 1]
    exact (row.reader c.byteOrder).short_of_take hmakes n (by simpa using hk)

/-- The two facts of an instruction's encoding that are its own: its opcode and its length. -/
theorem encodedAs_of_opcode {i : Instr} {op : Byte} {len : Nat} (hop : ∀ c, i.opcode c = op)
    (hlen : ∀ c, (encode c i).length = len) : EncodedAs i op len := by
  intro c hwf hi
  refine ⟨congrArg some (hop c), hlen c, decode_encode hwf i hi, fun k hk => ?_⟩
  exact decode_take_encode hwf i hi k (by rwa [hlen])

/-- Settles O38: the opcode byte selects a row that makes the instruction, and that row reads its operands back. -/
theorem decodeEncodeRoundTrip : Obligations.DecodeEncodeRoundTrip := fun _ i rest hwf hi => decode_encode hwf i hi rest

/-- Settles O37: each of the six words is read by evaluating the decoder. -/
theorem sampleWordsDecode : Obligations.SampleWordsDecode := ⟨rfl, rfl, rfl, rfl, rfl, rfl⟩

/-! ### Encoding what was decoded -/

/-- No instruction has two encodings: STTG is not at two places, and UBR with an address is CA only (R60, R61). -/
def Config.OneEncoding (c : Config) : Prop := (c.opc83 ≠ .sttg ∨ c.sttgOpcodes = none) ∧ c.ubrC2 ≠ .addr

/-- The instruction has an encoding, its operand bytes are those of these operands, and its opcode is this byte where no
instruction has two encodings. -/
def Instr.EncodesAs (c : Config) (op : Byte) (ops : List Opnd) (i : Instr) : Prop :=
  (c.OneEncoding → i.opcode c = op) ∧ i.wellFormed c = true ∧
    ∀ o, ops.flatMap (Opnd.bytes o) = i.operands.flatMap (Opnd.bytes o)

/-- A row of its own makes instructions of its own opcode, whatever the parameters: one case per row of the map (R58). -/
theorem plainRow_encodesAs {c : Config} {op : Byte} {row : Row} (hrow : plainRow op = some row) {ops : List Opnd}
    {i : Instr} (hmakes : row.Makes ops i) : i.EncodesAs c op ops := by
  unfold plainRow at hrow
  split at hrow <;> cases hrow
  all_goals
    rename_i hop
    obtain ⟨⟨⟨⟨⟩⟩⟩⟩ := hmakes
    exact ⟨fun _ => BitVec.eq_of_toNat_eq hop.symm, rfl, fun _ => rfl⟩

theorem row83_ok {c : Config} {setregs sttg row : Row} (h : row83 c setregs sttg = .ok row) :
    (c.opc83 = .setregs ∧ row = setregs) ∨ (c.opc83 = .sttg ∧ row = sttg) := by
  unfold row83 at h
  split at h <;> cases h
  · exact .inl ⟨‹_›, rfl⟩
  · exact .inr ⟨‹_›, rfl⟩

theorem Config.sttgEncoded_of_sttg {c : Config} (h : c.opc83 = .sttg) : c.sttgEncoded = true := by
  simp [Config.sttgEncoded, h]

theorem Config.sttgEncoded_of_own {c : Config} {q : SttgOpcodes} (hq : c.sttgOpcodes = some q) :
    c.sttgEncoded = true := by
  simp [Config.sttgEncoded, hq]

/-- What a contested byte makes is its owner's, encoded by that byte (R60). -/
theorem row83_encodesAs {c : Config} {op : Byte} {setregs sttg row : Row} (own : SttgOpcodes → Byte)
    (hrow : row83 c setregs sttg = .ok row)
    (hsetregs : ∀ ops i, setregs.Makes ops i → i.opcode c = op ∧ i.wellFormed c = c.setregsEncoded ∧
      ∀ o, ops.flatMap (Opnd.bytes o) = i.operands.flatMap (Opnd.bytes o))
    (hsttg : ∀ ops i, sttg.Makes ops i → i.opcode c = sttgByte c op own ∧ i.wellFormed c = c.sttgEncoded ∧
      ∀ o, ops.flatMap (Opnd.bytes o) = i.operands.flatMap (Opnd.bytes o)) {ops : List Opnd} {i : Instr}
    (hmakes : row.Makes ops i) : i.EncodesAs c op ops := by
  obtain ⟨h, rfl⟩ | ⟨h, rfl⟩ := row83_ok hrow
  · obtain ⟨hop, hwf, hbytes⟩ := hsetregs ops i hmakes
    exact ⟨fun _ => hop, hwf.trans (decide_eq_true h), hbytes⟩
  · obtain ⟨hop, hwf, hbytes⟩ := hsttg ops i hmakes
    exact ⟨fun _ => hop.trans (sttgByte_contested h op own), hwf.trans (Config.sttgEncoded_of_sttg h), hbytes⟩

/-- What a byte of `P_STTG_OPCODES` makes is an STTG, encoded by that byte where STTG has no other (R60). -/
theorem extraRow_encodesAs {c : Config} {op : Byte} {row : Row} (hrow : extraRow c op = .ok row) {ops : List Opnd}
    {i : Instr} (hmakes : row.Makes ops i) : i.EncodesAs c op ops := by
  unfold extraRow at hrow
  split at hrow
  · cases hrow
  · rename_i q hq
    have hop : ∀ contested own, own q = op → c.OneEncoding → sttgByte c contested own = op :=
      fun contested own hown ⟨hsttg, _⟩ => (sttgByte_own (hsttg.resolve_right (by simp [hq])) hq contested own).trans hown
    split_ifs at hrow <;> cases hrow
    all_goals
      obtain ⟨⟨⟨⟩⟩⟩ := hmakes
      exact ⟨hop _ _ (Eq.symm ‹_›), Config.sttgEncoded_of_own hq, fun _ => rfl⟩

theorem rowC2_encodesAs {c : Config} {row : Row} (hrow : rowC2 c = .ok row) {ops : List Opnd} {i : Instr}
    (hmakes : row.Makes ops i) : i.EncodesAs c 0xC2 ops := by
  unfold rowC2 at hrow
  split at hrow <;> cases hrow
  · rename_i hreg
    obtain ⟨⟨⟩⟩ := hmakes
    exact ⟨fun _ => rfl, decide_eq_true hreg, fun _ => rfl⟩
  · rename_i haddr
    obtain ⟨⟨⟩⟩ := hmakes
    exact ⟨fun ⟨_, hubr⟩ => absurd haddr hubr, rfl, fun _ => rfl⟩

/-- What a row of the opcode map makes is encoded by the row's byte. -/
theorem rowOf_encodesAs {c : Config} {op : Byte} {row : Row} (hrow : rowOf c op = .ok row) {ops : List Opnd} {i : Instr}
    (hmakes : row.Makes ops i) : i.EncodesAs c op ops := by
  unfold rowOf at hrow
  split at hrow
  · cases hrow
    exact plainRow_encodesAs ‹_› hmakes
  split_ifs at hrow with h83 h87 h8B h8F hC2
  · subst h83
    refine row83_encodesAs (·.rr) hrow ?_ ?_ hmakes <;> rintro ops i ⟨⟨⟨⟩⟩⟩ <;> exact ⟨rfl, rfl, fun _ => rfl⟩
  · subst h87
    refine row83_encodesAs (·.ri) hrow ?_ ?_ hmakes <;> rintro ops i ⟨⟨⟨⟩⟩⟩ <;> exact ⟨rfl, rfl, fun _ => rfl⟩
  · subst h8B
    refine row83_encodesAs (·.ir) hrow ?_ ?_ hmakes <;> rintro ops i ⟨⟨⟨⟩⟩⟩ <;> exact ⟨rfl, rfl, fun _ => rfl⟩
  · subst h8F
    refine row83_encodesAs (·.ii) hrow ?_ ?_ hmakes <;> rintro ops i ⟨⟨⟨⟩⟩⟩ <;> exact ⟨rfl, rfl, fun _ => rfl⟩
  · subst hC2
    exact rowC2_encodesAs hrow hmakes
  · exact extraRow_encodesAs hrow hmakes

/-- Bytes that decode are an opcode byte, the operand bytes of the instruction and the rest. -/
theorem bytes_of_decode {c : Config} {bytes rest : List Byte} {i : Instr} (h : decode c bytes = .ok (i, rest)) :
    i.wellFormed c = true ∧ ∃ op, (c.OneEncoding → i.opcode c = op) ∧
      bytes = op :: i.operands.flatMap (Opnd.bytes c.byteOrder) ++ rest := by
  cases bytes with
  | nil => cases h
  | cons op bs =>
    cases hrow : rowOf c op with
    | error e => simp [decode, hrow] at h
    | ok row =>
      rw [Machine.decode_cons_of_rowOf hrow] at h
      obtain ⟨ops, hmakes, rfl⟩ := (row.reader c.byteOrder).bytes_of_ok h
      obtain ⟨hop, hi, hbytes⟩ := rowOf_encodesAs hrow hmakes
      exact ⟨hi, op, hop, by rw [hbytes, List.cons_append]⟩

/-- Settles O39: the row of the opcode byte has read the bytes of the operands, and makes instructions of that opcode. -/
theorem encodeDecodeRoundTrip : Obligations.EncodeDecodeRoundTrip := by
  intro c bytes rest i _ hsttg hubr h
  obtain ⟨hi, op, hop, hbytes⟩ := bytes_of_decode h
  exact ⟨hi, by rw [hbytes, encode, hop ⟨hsttg, hubr⟩]⟩

end Sys2Proof

/-! PROOFS. Fetching the instruction at `pc` and executing it (spec/60_exceptions.md R163 to R165, R175). -/

namespace Sys2Proof.Machine

open Sys2Proof.Claims

/-! ### Bytes of sequence space in a row -/

theorem Memory.bytes_add (m : Memory) (a n k : Nat) : m.bytes a (n + k) = m.bytes a n ++ m.bytes (a + n) k := by
  induction n generalizing a with
  | zero => simp [Memory.bytes]
  | succ n ih => rw [Nat.add_right_comm, Memory.bytes, ih, Memory.bytes, List.cons_append, Nat.add_right_comm a 1 n,
      Nat.add_assoc a n 1]

/-- Bytes that read as those of a list are the list. -/
theorem Memory.bytes_eq_of_read (m : Memory) (bs : List Byte) (a : Nat)
    (h : ∀ k < bs.length, m.read (a + k) = bs.getD k 0) : m.bytes a bs.length = bs := by
  induction bs generalizing a with
  | nil => rfl
  | cons b bs ih =>
    rw [List.length_cons, Memory.bytes]
    congr 1
    · exact h 0 (Nat.succ_pos _)
    · refine ih (a + 1) fun k hk => ?_
      rw [Nat.add_assoc, Nat.add_comm 1 k]
      exact h (k + 1) (Nat.succ_lt_succ hk)

/-- Bytes just stored are read back. -/
theorem Memory.bytes_writeAll {m : Memory} (h : m.wf = true) (a : Nat) (bs : List Byte) :
    (m.writeAll a bs).bytes a bs.length = bs := by
  refine Memory.bytes_eq_of_read _ bs a fun k hk => ?_
  rw [Memory.read_writeAll bs h, if_pos (by omega), Nat.add_sub_cancel_left]

/-! ### What the fetch answers -/

/-- The window a fetch sees is the one the statements name. -/
theorem State.fetchBytes_eq (s : State) : s.fetchBytes = fetchWindow s := rfl

theorem State.fetch_of_decode_ok {s : State} {i : Instr} {rest : List Byte}
    (h : decode s.cfg (fetchWindow s) = .ok (i, rest)) : s.fetch = .ok i := by
  rw [State.fetch, State.fetchBytes_eq, h]

theorem State.fetch_of_decode_error {s : State} {e : Rejection} (h : decode s.cfg (fetchWindow s) = .error e) :
    s.fetch = .error e := by
  rw [State.fetch, State.fetchBytes_eq, h]

/-- The fetch reads an instruction off the front of the window. -/
theorem State.fetch_ok_iff {s : State} {i : Instr} :
    s.fetch = .ok i ↔ ∃ rest, decode s.cfg (fetchWindow s) = .ok (i, rest) := by
  refine ⟨fun h => ?_, fun ⟨rest, h⟩ => State.fetch_of_decode_ok h⟩
  rw [State.fetch, State.fetchBytes_eq] at h
  split at h
  · cases h
    exact ⟨_, ‹_›⟩
  · cases h

/-- No instruction is longer than the window (R54). -/
theorem encode_length_le (c : Config) (i : Instr) : (encode c i).length ≤ maxLength := by
  cases i <;> simp [encode, Instr.operands, Opnd.bytes, maxLength]

/-- The fetch finds the instruction whose encoding stands at `pc` in sequence space. -/
theorem State.fetch_of_encode {s : State} {i : Instr} (hwf : s.cfg.wf = true) (hi : i.wellFormed s.cfg = true)
    (hin : s.pc + (encode s.cfg i).length ≤ s.cfg.seqSize)
    (hbytes : s.mem.bytes s.pc (encode s.cfg i).length = encode s.cfg i) : s.fetch = .ok i := by
  have hlen : (encode s.cfg i).length ≤ min 7 (s.cfg.seqSize - s.pc) :=
    Nat.le_min.mpr ⟨encode_length_le s.cfg i, by omega⟩
  apply State.fetch_of_decode_ok
  rw [fetchWindow, ← Nat.add_sub_of_le hlen, Memory.bytes_add, hbytes]
  exact decode_encode hwf i hi _

/-- Inside sequence space the window starts with the opcode byte. -/
theorem fetchWindow_of_lt {s : State} (h : s.pc < s.cfg.seqSize) : ∃ bs, fetchWindow s = s.mem.read s.pc :: bs := by
  obtain ⟨n, hn⟩ : ∃ n, min 7 (s.cfg.seqSize - s.pc) = n + 1 := ⟨min 7 (s.cfg.seqSize - s.pc) - 1, by omega⟩
  exact ⟨_, by rw [fetchWindow, hn, Memory.bytes]⟩

theorem fetchWindow_of_ge {s : State} (h : s.cfg.seqSize ≤ s.pc) : fetchWindow s = [] := by
  rw [fetchWindow, Nat.sub_eq_zero_of_le h]
  rfl

/-! ### Executing what the fetch answers -/

/-- A running machine executes, with an empty schedule or one that names the execution. -/
theorem step_of_running {s : State} (hmode : s.mode = .running) :
    (s.schedule = [] → step s = execStep s) ∧ ∀ l, s.schedule = .exec :: l → step s = execStep { s with schedule := l } := by
  refine ⟨fun h => step_running s h hmode, fun l h => ?_⟩
  rw [step_scheduled s _ l h, act]
  exact if_pos hmode

/-- A running machine runs the instruction the fetch finds. -/
theorem step_of_fetch_ok {s : State} {i : Instr} (hmode : s.mode = .running) (hfetch : s.fetch = .ok i) :
    (s.schedule = [] → step s = exec i s) ∧ ∀ l, s.schedule = .exec :: l → step s = exec i { s with schedule := l } := by
  obtain ⟨hnil, hcons⟩ := step_of_running hmode
  refine ⟨fun h => ?_, fun l h => ?_⟩
  · rw [hnil h, execStep_ok s i hfetch]
  · exact (hcons l h).trans (execStep_ok { s with schedule := l } i hfetch)

/-- Settles O33: the fetch finds what the window decodes to, and a running machine runs that. -/
theorem stepRunsDecodedInstruction : Obligations.StepRunsDecodedInstruction :=
  fun _ _ _ hmode h => step_of_fetch_ok hmode (State.fetch_of_decode_ok h)

/-- Settles O34: the window starts with the encoding, which decodes to the instruction whatever follows. -/
theorem stepRunsEncodedInstruction : Obligations.StepRunsEncodedInstruction :=
  fun _ _ hwf hi hmode hin hbytes => step_of_fetch_ok hmode (State.fetch_of_encode hwf hi hin hbytes)

theorem State.fetchFailed_eq (s : State) (e : Rejection) :
    s.fetchFailed e = { s with mode := modeOfRejection s.pc e } := by
  cases e <;> rfl

/-- A running machine whose window decodes to no instruction stops with the reason in its mode (R164). -/
theorem executionLeavesMode_of_decode_error {s : State} {e : Rejection} (hmode : s.mode = .running)
    (h : decode s.cfg (fetchWindow s) = .error e) : ExecutionLeavesMode s (modeOfRejection s.pc e) := by
  have hfetch : s.fetch = .error e := State.fetch_of_decode_error h
  obtain ⟨hnil, hcons⟩ := step_of_running hmode
  refine ⟨fun hs => ?_, fun l hs => ?_⟩
  · rw [hnil hs, execStep_error s e hfetch, State.fetchFailed_eq]
  · exact (hcons l hs).trans ((execStep_error { s with schedule := l } e hfetch).trans
      (congrArg _ (State.fetchFailed_eq { s with schedule := l } e)))

/-- Settles O35: each rejection of the decoder becomes its mode, and nothing else changes. -/
theorem failedFetchStops : Obligations.FailedFetchStops := fun _ _ hmode h => executionLeavesMode_of_decode_error hmode h

/-! ### Bytes without a meaning -/

theorem decode_cons_of_rowOf_error {c : Config} {op : Byte} {e : Rejection} (hrow : rowOf c op = .error e)
    (bs : List Byte) : decode c (op :: bs) = .error e := by
  simp only [decode, hrow]

/-- A running machine stops at a byte the opcode map rejects. -/
theorem executionLeavesMode_of_rowOf_error {s : State} {e : Rejection} (hmode : s.mode = .running)
    (hpc : s.pc < s.cfg.seqSize) (hrow : rowOf s.cfg (s.mem.read s.pc) = .error e) :
    ExecutionLeavesMode s (modeOfRejection s.pc e) := by
  obtain ⟨bs, hbs⟩ := fetchWindow_of_lt hpc
  exact executionLeavesMode_of_decode_error hmode (by rw [hbs, decode_cons_of_rowOf_error hrow])

/-- A byte that is neither assigned nor one of STTG's own has no row (R59). -/
theorem rowOf_illegal {c : Config} {op : Byte} (hop : op ∉ assignedOpcodes)
    (hown : ∀ q, c.sttgOpcodes = some q → op ∉ [q.rr, q.ri, q.ir, q.ii]) : rowOf c op = .error (.illegalOpcode op) := by
  rw [rowOf_unassigned c op (by simpa using hop)]
  unfold extraRow
  split
  · rfl
  · rename_i q hq
    have hne := hown q hq
    simp only [List.mem_cons, List.not_mem_nil, or_false, not_or] at hne
    obtain ⟨h1, h2, h3, h4⟩ := hne
    rw [if_neg h1, if_neg h2, if_neg h3, if_neg h4]

theorem rowOf_contested_refused {c : Config} {op : Byte} (h : c.opc83 = .refuse)
    (hop : op ∈ ([0x83, 0x87, 0x8B, 0x8F] : List Byte)) : rowOf c op = .error .opcode83 := by
  have hrow : ∀ r r', row83 c r r' = .error .opcode83 := fun r r' => by simp only [row83, h]
  simp only [List.mem_cons, List.not_mem_nil, or_false] at hop
  obtain rfl | rfl | rfl | rfl := hop
  · rw [rowOf_83, hrow]
  · rw [rowOf_87, hrow]
  · rw [rowOf_8B, hrow]
  · rw [rowOf_8F, hrow]

theorem rowOf_C2_refused {c : Config} (h : c.ubrC2 = .refuse) : rowOf c 0xC2 = .error .ubrC2 := by
  rw [rowOf_C2, rowC2, h]

/-- Settles O36: with no byte in the window the read at offset 0 fails; else the opcode map rejects the byte at `pc`. -/
theorem bytesWithoutMeaningStop : Obligations.BytesWithoutMeaningStop := by
  intro s hmode
  refine ⟨fun hend => ?_, fun hpc hop hown => ?_, fun hpc h83 hop => ?_, fun hpc hC2 hop => ?_⟩
  · exact executionLeavesMode_of_decode_error (e := .short 0) hmode (by rw [fetchWindow_of_ge hend, decode])
  · exact executionLeavesMode_of_rowOf_error hmode hpc (rowOf_illegal hop hown)
  · exact executionLeavesMode_of_rowOf_error hmode hpc (rowOf_contested_refused h83 hop)
  · exact executionLeavesMode_of_rowOf_error hmode hpc (by rw [hop, rowOf_C2_refused hC2])

/-! ### Placing an instruction -/

theorem bytesOfNat_length (n w : Nat) : (bytesOfNat n w).length = n := by
  induction n generalizing w with
  | zero => rfl
  | succ n ih => rw [bytesOfNat, List.length_cons, ih]

theorem layoutWord_length {nbits : Nat} (h : nbits ≤ 56) (w : Nat) : (layoutWord nbits w).length = 7 := by
  rw [layoutWord, bytesOfNat_length, maxLength]
  omega

/-- The window after seven bytes are placed in the default sequence space is those bytes. -/
theorem fetchWindow_place {s : State} (hcfg : s.cfg = Config.default) (hmem : s.mem.wf = true) {bytes : List Byte}
    (hlen : bytes.length = 7) : fetchWindow (s.place bytes) = bytes := by
  have hsize : s.cfg.seqSize = 65536 := by rw [hcfg]; rfl
  have hmin : min 7 ((s.place bytes).cfg.seqSize - (s.place bytes).pc) = bytes.length := by
    simp only [State.place, hsize, hlen]
    split <;> omega
  rw [fetchWindow, hmin]
  exact Memory.bytes_writeAll hmem _ bytes

theorem decode_of_decodeTableWord {nbits w : Nat} {i : Instr} (h : decodeTableWord nbits w = some i) :
    ∃ rest, decode Config.default (layoutWord nbits w) = .ok (i, rest) := by
  unfold decodeTableWord at h
  split at h
  · cases h
    exact ⟨_, ‹_›⟩
  · cases h

/-- Settles O41: the placed bytes are the window of the next fetch, and the table word decodes from them. -/
theorem placedInstructionRunsNext : Obligations.PlacedInstructionRunsNext := by
  intro s nbits w i hcfg hmem hbits hdecode
  obtain ⟨rest, hrest⟩ := decode_of_decodeTableWord hdecode
  have hwindow : fetchWindow (s.withFetchWord nbits w) = layoutWord nbits w :=
    fetchWindow_place hcfg hmem (layoutWord_length hbits w)
  have hfetch : (s.withFetchWord nbits w).fetch = .ok i :=
    State.fetch_of_decode_ok (rest := rest) (by rw [hwindow, ← hrest]; exact congrArg (decode · _) hcfg)
  exact (step_of_fetch_ok rfl hfetch).1 rfl

end Sys2Proof.Machine

/-! PROOFS. What an instruction does once its register bytes are checked (spec/30_encoding.md R54, R55;
spec/60_exceptions.md R166), and the arithmetic instructions (spec/40_arithmetic.md R71 to R76). -/

namespace Sys2Proof.Machine

open Sys2Proof.Claims

/-! ### The check of the register bytes -/

/-- Every register operand of the list exists. -/
def State.Has (s : State) (ops : List Opnd) : Prop := ops.findSome? s.badOperand = none

@[simp] theorem State.has_nil (s : State) : s.Has [] := rfl

@[simp] theorem State.has_reg (s : State) (r : Reg) (ops : List Opnd) :
    s.Has (.reg r :: ops) ↔ r.toNat < s.nregs ∧ s.Has ops := by
  by_cases h : s.nregs ≤ r.toNat
  · simp [State.Has, State.badOperand, h, Nat.not_lt.mpr h]
  · simp [State.Has, State.badOperand, h, Nat.not_le.mp h]

@[simp] theorem State.has_imm (s : State) (v : Word) (ops : List Opnd) : s.Has (.imm v :: ops) ↔ s.Has ops := Iff.rfl

@[simp] theorem State.has_addr (s : State) (a : Word) (ops : List Opnd) : s.Has (.addr a :: ops) ↔ s.Has ops := Iff.rfl

@[simp] theorem regsExist_nil (s : State) : RegsExist s [] := fun _ h => nomatch h

@[simp] theorem regsExist_cons (s : State) (r : Reg) (rs : List Reg) :
    RegsExist s (r :: rs) ↔ r.toNat < s.nregs ∧ RegsExist s rs := List.forall_mem_cons

theorem State.withOperands_of_has {s : State} {ops : List Opnd} (h : s.Has ops) (body : State) :
    s.withOperands ops body = body :=
  s.withOperands_ok ops body h

/-- Every instruction checks its register bytes before anything else. -/
theorem exec_eq_withOperands (i : Instr) (s : State) : ∃ body, exec i s = .next (s.withOperands i.operands body) := by
  cases i <;> exact ⟨_, rfl⟩

/-- The operand that fails the check is the first missing register. -/
theorem State.findSome_badOperand (s : State) (ops : List Opnd) :
    ops.findSome? s.badOperand = (regNumbers ops).find? (fun m => decide (s.nregs ≤ m)) := by
  induction ops with
  | nil => rfl
  | cons k ops ih =>
    cases k with
    | reg r =>
      rw [List.findSome?_cons, regNumbers, List.find?_cons, ih, State.badOperand]
      by_cases h : s.nregs ≤ r.toNat
      · simp only [if_pos h, decide_eq_true h]
      · simp only [if_neg h, decide_eq_false h]
    | imm v => exact ih
    | addr a => exact ih

theorem raisesRegIndex (i : Instr) : RaisesRegIndex i := by
  intro s n h
  obtain ⟨body, hexec⟩ := exec_eq_withOperands i s
  rw [hexec, s.withOperands_bad i.operands body n ((s.findSome_badOperand i.operands).trans h)]
  rfl

/-- Settles O40: every instruction is its operand check first, which raises `RegIndex` for the first missing register. -/
theorem missingRegisterRaisesRegIndex : Obligations.MissingRegisterRaisesRegIndex := raisesRegIndex

/-! ### The integers of the spec as words -/

theorem trunc16_natCast (n : Nat) : trunc16 n = BitVec.ofNat 16 n := by
  rw [trunc16, BitVec.ofInt_natCast]

theorem trunc16_sub (m n : Nat) (h : n ≤ 65536) : trunc16 (m - n) = BitVec.ofNat 16 (m + 65536 - n) := by
  apply BitVec.eq_of_toNat_eq
  rw [trunc16, BitVec.toNat_ofInt, BitVec.toNat_ofNat]
  omega

theorem trunc16_sub_one (m : Nat) : trunc16 (m - 1) = BitVec.ofNat 16 (m + 65535) := by
  have h := trunc16_sub m 1 (by decide)
  rwa [Nat.cast_one, Nat.add_sub_assoc (by decide)] at h

theorem u16_le (v : Word) : u16 v ≤ 65536 := v.isLt.le

/-! ### ADD, SUB, INC, DEC -/

theorem addOp_eq {s : State} {d : Reg} {a b : Opnd} (h : s.Has [.reg d, a, b]) :
    addOp d a b s = { s with
      regs := wr s d (BitVec.ofNat 16 ((s.val a).toNat + (s.val b).toNat))
      pc := s.npc [.reg d, a, b] } := by
  rw [addOp, State.withOperands_of_has h, State.finish_eq, ← Nat.cast_add, trunc16_natCast]
  rfl

/-- Settles O1: each form adds its operand values and truncates the sum. -/
theorem addWritesWrappedSum : Obligations.AddWritesWrappedSum := by
  intro s d a b u v hd
  refine ⟨fun hab => ?_, fun ha => ?_, fun hb => ?_, ?_⟩
  all_goals exact congrArg Host.Outcome.next (addOp_eq (by simp_all))

theorem subOp_eq {s : State} {d : Reg} {a b : Opnd} (h : s.Has [.reg d, a, b]) :
    subOp d a b s = { s with
      regs := wr s d (BitVec.ofNat 16 ((s.val a).toNat + 65536 - (s.val b).toNat))
      pc := s.npc [.reg d, a, b] } := by
  rw [subOp, State.withOperands_of_has h, State.finish_eq, trunc16_sub _ _ (u16_le _)]
  rfl

/-- Settles O2: each form subtracts its operand values and truncates the difference. -/
theorem subWritesWrappedDifference : Obligations.SubWritesWrappedDifference := by
  intro s d a b u v hd
  refine ⟨fun hab => ?_, fun ha => ?_, fun hb => ?_, ?_⟩
  all_goals exact congrArg Host.Outcome.next (subOp_eq (by simp_all))

theorem incOp_eq {s : State} {d : Reg} (h : s.Has [.reg d]) :
    incOp d s = { s with regs := wr s d (BitVec.ofNat 16 ((rv s d).toNat + 1)), pc := s.pc + 2 } := by
  rw [incOp, State.withOperands_of_has h, State.finish_eq, ← Nat.cast_one, ← Nat.cast_add, trunc16_natCast]
  rfl

theorem decOp_eq {s : State} {d : Reg} (h : s.Has [.reg d]) :
    decOp d s = { s with regs := wr s d (BitVec.ofNat 16 ((rv s d).toNat + 65535)), pc := s.pc + 2 } := by
  rw [decOp, State.withOperands_of_has h, State.finish_eq, trunc16_sub_one]
  rfl

/-- Settles O5: one more and one less, truncated. -/
theorem incDecWrap : Obligations.IncDecWrap := fun s d hd =>
  ⟨congrArg Host.Outcome.next (incOp_eq (by simp_all)), congrArg _ (decOp_eq (by simp_all))⟩

/-! ### MUL -/

theorem product_eq (signed : Bool) (a b : Word) : product signed a b =
    if signed = true then BitVec.ofInt 32 (a.toInt * b.toInt) else BitVec.ofNat 32 (a.toNat * b.toNat) := by
  unfold product
  split
  · rfl
  · rw [← Nat.cast_mul, BitVec.ofInt_natCast]
    rfl

theorem extractLsb'_low (p : BitVec 32) : p.extractLsb' 0 16 = BitVec.ofNat 16 (p.toNat % 65536) := by
  apply BitVec.eq_of_toNat_eq
  simp

theorem extractLsb'_high (p : BitVec 32) : p.extractLsb' 16 16 = BitVec.ofNat 16 (p.toNat / 65536) := by
  apply BitVec.eq_of_toNat_eq
  simp [Nat.shiftRight_eq_div_pow]

/-- An instruction that multiplies over these operands is a MUL of their values. -/
theorem multiplies_of_mulOp {i : Instr} {s : State} {d : Reg} {a b : Opnd} {x y : Word} {len : Nat}
    (hi : exec i s = .next (mulOp d a b s)) (hx : s.val a = x) (hy : s.val b = y)
    (hlen : s.npc [.reg d, a, b] = s.pc + len) (h : s.Has [.reg d, a, b]) : Multiplies i s d x y len := by
  subst hx hy
  rw [mulOp, State.withOperands_of_has h] at hi
  refine ⟨fun p hd hp => ?_, fun hd => ?_⟩
  · rw [hi, if_neg (c := d.toNat = highReg) hd, product_eq, ← hp, State.finish_eq, extractLsb'_low, extractLsb'_high, hlen]
    rfl
  · rw [hi, if_pos (c := d.toNat = highReg) hd]
    rfl

/-- Settles O3: each form multiplies its operand values. -/
theorem mulSplitsProduct : Obligations.MulSplitsProduct := by
  intro s d a b u v hd
  refine ⟨fun hab => ?_, fun ha => ?_, fun hb => ?_, ?_⟩
  all_goals exact multiplies_of_mulOp rfl rfl rfl rfl (by simp_all)

/-! ### DIV -/

/-- An instruction that divides over these operands is a DIV of their values. -/
theorem divides_of_divOp {i : Instr} {s : State} {d : Reg} {a b : Opnd} {x y : Word} {len : Nat}
    (hi : exec i s = .next (divOp d a b s)) (hx : s.val a = x) (hy : s.val b = y)
    (hlen : s.npc [.reg d, a, b] = s.pc + len) (h : s.Has [.reg d, a, b]) : Divides i s d x y len := by
  subst hx hy
  rw [divOp, State.withOperands_of_has h] at hi
  refine ⟨fun hsigned hb hover => ?_, fun hunsigned hb => ?_, fun hb => ?_, fun hsigned ha hb => ?_⟩
  · rw [hi, if_neg hb, if_neg fun hc => hover hc.2, quotient, if_pos hsigned, State.finish_eq, hlen]
    rfl
  · rw [hi, if_neg hb, if_neg (by simp [hunsigned]), quotient, if_neg (by simp [hunsigned]), trunc16_natCast,
      State.finish_eq, hlen]
    rfl
  · rw [hi, if_pos hb]
    rfl
  · rw [hi, if_neg (by simp [hb]), if_pos ⟨hsigned, ha, hb⟩]
    rfl

/-- Settles O4: each form divides its operand values. -/
theorem divRoundsTowardZeroOrFaults : Obligations.DivRoundsTowardZeroOrFaults := by
  intro s d a b u v hd
  refine ⟨fun hab => ?_, fun ha => ?_, fun hb => ?_, ?_⟩
  all_goals exact divides_of_divOp rfl rfl rfl rfl (by simp_all)

end Sys2Proof.Machine

/-! PROOFS. The branch instructions (spec/41_branch.md R80 to R91): one bound check and one jump, whatever the condition. -/

namespace Sys2Proof.Machine

open Sys2Proof.Claims

theorem State.outOfBounds_iff (s : State) (t : Nat) : s.outOfBounds t = true ↔ s.cfg.seqSize ≤ t := decide_eq_true_iff

/-- An instruction that branches over these operands is a branch to the target's value. -/
theorem branchesTo_of_branchOp {i : Instr} {s : State} {ops : List Opnd} {k : Opnd} {cond cond' : Bool} {t len : Nat}
    (hi : exec i s = .next (branchOp ops k cond' s)) (ht : (s.val k).toNat = t) (hcond : cond' = cond)
    (hlen : s.npc ops = s.pc + len) (h : s.Has ops) : BranchesTo i s t cond len := by
  subst ht hcond
  rw [branchOp, State.withOperands_of_has h, hlen] at hi
  refine ⟨fun hin => ?_, fun hout hcheck => ?_, fun hout htaken hcond => ?_⟩
  · have hout : ¬s.outOfBounds (u16 (s.val k)) = true := fun ho => absurd ((s.outOfBounds_iff _).mp ho) (Nat.not_le.mpr hin)
    rw [hi, if_neg fun hc => hout hc.2]
    cases cond' with
    | false => rfl
    | true =>
      rw [if_pos (c := true = true) rfl, if_neg fun hc => hout hc.2]
      rfl
  · have hout : s.outOfBounds (u16 (s.val k)) = true := (s.outOfBounds_iff _).mpr hout
    cases hb : s.cfg.boundsCheck with
    | always =>
      rw [hi, if_pos ⟨hb, hout⟩]
      rfl
    | taken =>
      have hcond : cond' = true := hcheck.resolve_left (by simp [hb])
      rw [hi, if_neg (by simp [hb]), if_pos hcond, if_pos ⟨hb, hout⟩]
      rfl
  · rw [hi, if_neg (by simp [htaken]), if_neg (by simp [hcond])]

/-- Settles O6: each form is a branch on equality of the two values. -/
theorem equalityBranches : Obligations.EqualityBranches := by
  intro s r a b t v ha
  refine ⟨fun hrb => ⟨?_, ?_⟩, fun hr => ⟨?_, ?_⟩, fun hb => ⟨?_, ?_⟩, ?_, ?_⟩
  all_goals exact branchesTo_of_branchOp rfl rfl rfl rfl (by simp_all)

/-! ### The order of two values -/

theorem wordLt_eq_less (s : State) (a b : Word) : wordLt s.cfg.signed a b = less s a b := rfl

/-- Not above is below or equal, under either reading (R91). -/
theorem wordLe_eq_not_less (s : State) (a b : Word) : wordLe s.cfg.signed a b = !less s b a := by
  rw [Bool.eq_iff_iff, wordLe, wordLt_eq_less]
  cases hs : s.cfg.signed with
  | true =>
    rw [less, less, if_pos hs, if_pos hs]
    simp only [Bool.or_eq_true, decide_eq_true_eq, Bool.not_eq_true', decide_eq_false_iff_not, ← BitVec.toInt_inj]
    omega
  | false =>
    have hu : ¬s.cfg.signed = true := by simp [hs]
    rw [less, less, if_neg hu, if_neg hu]
    simp only [Bool.or_eq_true, decide_eq_true_eq, Bool.not_eq_true', decide_eq_false_iff_not, ← BitVec.toNat_inj]
    omega

/-- The four branches over the same operands are branches on the order of their values, BLE and BGE by negation. -/
theorem branchesTo_order {blt ble bgt bge : Instr} {s : State} {k a b : Opnd} {x y : Word} {t len : Nat}
    (hlt : exec blt s = .next (bltOp k a b s)) (hle : exec ble s = .next (bleOp k a b s))
    (hgt : exec bgt s = .next (bgtOp k a b s)) (hge : exec bge s = .next (bgeOp k a b s)) (ht : (s.val k).toNat = t)
    (hx : s.val a = x) (hy : s.val b = y) (hlen : s.npc [k, a, b] = s.pc + len) (h : s.Has [k, a, b]) :
    BranchesTo blt s t (less s x y) len ∧ BranchesTo ble s t (!less s y x) len ∧
      BranchesTo bgt s t (less s y x) len ∧ BranchesTo bge s t (!less s x y) len := by
  subst hx hy
  exact ⟨branchesTo_of_branchOp hlt ht (wordLt_eq_less s _ _) hlen h,
    branchesTo_of_branchOp hle ht (wordLe_eq_not_less s _ _) hlen h,
    branchesTo_of_branchOp hgt ht (wordLt_eq_less s _ _) hlen h,
    branchesTo_of_branchOp hge ht (wordLe_eq_not_less s _ _) hlen h⟩

/-- Settles O7: each form's four branches are those on the order of its operand values. -/
theorem orderBranches : Obligations.OrderBranches := by
  intro s r a b t v ha
  refine ⟨fun hrb => ?_, fun hr => ?_, fun hb => ?_, ?_⟩
  all_goals exact branchesTo_order rfl rfl rfl rfl rfl rfl rfl rfl (by simp_all)

/-- Settles O8: each form is a branch on a test against zero. -/
theorem zeroTestBranches : Obligations.ZeroTestBranches := by
  intro s r a t ha
  refine ⟨fun hr => ⟨?_, ?_⟩, ?_, ?_⟩
  all_goals exact branchesTo_of_branchOp rfl rfl rfl rfl (by simp_all)

/-- A branch that is always taken checks its target under either setting of `P_BOUNDS_CHECK`. -/
theorem branchesTo_always {i : Instr} {s : State} {t len : Nat} (h : BranchesTo i s t true len) :
    (t < s.cfg.seqSize → exec i s = .next { s with pc := t }) ∧
      (s.cfg.seqSize ≤ t → exec i s = .next (faulted s (.branchBounds t))) := by
  obtain ⟨hin, hout, -⟩ := h
  exact ⟨hin, fun ht => hout ht (.inr rfl)⟩

/-- Settles O9: UBR is a branch whose condition always holds. -/
theorem ubrGoesToCheckedTarget : Obligations.UbrGoesToCheckedTarget := fun _ _ _ =>
  ⟨fun _ => branchesTo_always (len := 2) (branchesTo_of_branchOp rfl rfl rfl rfl (by simp_all)),
    branchesTo_always (len := 3) (branchesTo_of_branchOp rfl rfl rfl rfl (by simp))⟩

end Sys2Proof.Machine

/-! PROOFS. The sequence related instructions (spec/42_sequence_control.md R96, R97, R99 to R103). -/

namespace Sys2Proof.Machine

open Sys2Proof.Claims

/-! ### CLL and SID -/

/-- An instruction that calls over these operands is a call of the ID made of their values. -/
theorem calls_of_cllOp {i : Instr} {s : State} {lo hi : Opnd} {id : SeqId} {len : Nat}
    (hexec : exec i s = .next (cllOp lo hi s)) (hid : seqId (s.val lo) (s.val hi) = id)
    (hlen : s.npc [lo, hi] = s.pc + len) (h : s.Has [lo, hi]) : Calls i s id len := by
  subst hid
  rw [cllOp, State.withOperands_of_has h, hlen] at hexec
  refine ⟨fun a hdepth hfind => ?_, fun hdepth => ?_, fun hdepth hfind => ?_⟩
  · simp only [if_neg hdepth, hfind] at hexec
    rw [hexec]
    cases s.cfg.delayOnCall <;> rfl
  · rw [hexec, if_pos hdepth]
    rfl
  · simp only [if_neg hdepth, hfind] at hexec
    exact hexec

/-- Settles O10: each form calls the ID made of its operand values. -/
theorem cllPushesAndEnters : Obligations.CllPushesAndEnters := by
  intro s a b u v
  refine ⟨fun hab => ?_, fun ha => ?_, fun hb => ?_, ?_⟩
  all_goals exact calls_of_cllOp rfl rfl rfl (by simp_all)

theorem sidOp_eq {s : State} {lo hi next : Opnd} (h : s.Has [lo, hi, next]) :
    sidOp lo hi next s = telemetered s (s.val hi ++ s.val lo) (1 + operandBytes [lo, hi, next]) := by
  rw [sidOp, State.withOperands_of_has h, State.npc, Nat.add_assoc]
  rfl

/-- Settles O11: each form reports the ID made of its first two operand values. -/
theorem sidPlacesIdInTelemetry : Obligations.SidPlacesIdInTelemetry := by
  intro s a b u v w
  refine ⟨fun hab => ?_, fun ha => ?_, fun hb => ?_, ?_⟩
  all_goals exact congrArg Host.Outcome.next (sidOp_eq (by simp_all))

/-! ### RET, EXIT, TERM, ABORT -/

/-- An instruction that makes the state `s0`, with the callers, the list and the sequences of `s`, and then ends normally. -/
theorem endsNormally_of_endNormal {i : Instr} {s s0 : State} (hi : exec i s = .next s0.endNormal)
    (hstack : s0.callStack = s.callStack) (hlist : s0.seqList = s.seqList) (hnow : s0.nowTicks = s.nowTicks)
    (hcfg : s0.cfg = s.cfg) (hmem : s0.mem = s.mem) : EndsNormally i s s0 := by
  refine ⟨fun f fs hs => ?_, fun hs hl => ?_, fun id ids a hs hl hfind => ?_, fun id ids hs hl hfind => ?_⟩
  · rw [hi, s0.endNormal_return f fs (hstack.trans hs)]
  · rw [hi, s0.endNormal_idle (hstack.trans hs) (hlist.trans hl)]
  · rw [hi, s0.endNormal_list id ids (hstack.trans hs) (hlist.trans hl), State.startSeq_found _ id a, ← hnow]
    exact (State.findSeq_congr s { s0 with seqList := ids } hcfg hmem id).trans hfind
  · rw [hi, s0.endNormal_list id ids (hstack.trans hs) (hlist.trans hl), State.startSeq_missing _ id]
    · rfl
    · exact (State.findSeq_congr s { s0 with seqList := ids } hcfg hmem id).trans hfind

/-- Settles O13: RET is the normal end. -/
theorem retEndsNormally : Obligations.RetEndsNormally := fun _ => endsNormally_of_endNormal rfl rfl rfl rfl rfl rfl

theorem exec_exit_of_has {i : Instr} {s : State} {k : Opnd} (hi : exec i s = .next (exitOp k s)) (h : s.Has [k]) :
    exec i s = .next (s.setBuiltin .rtn (s.val k)).endNormal := by
  rw [hi, exitOp, State.withOperands_of_has h]

/-- EXIT ends normally from the state in which `$RTN` is set. -/
theorem endsNormally_of_exitOp {i : Instr} {s s0 : State} {k : Opnd} (hi : exec i s = .next (exitOp k s))
    (hs0 : s.setBuiltin .rtn (s.val k) = s0) (h : s.Has [k]) : EndsNormally i s s0 := by
  subst hs0
  apply endsNormally_of_endNormal (exec_exit_of_has hi h) <;> simp

theorem State.setBuiltin_of_mapped {s : State} {b : Builtin} {n : Nat} (h : builtinReg s.cfg.builtinReg b = some n)
    (v : Word) : s.setBuiltin b v = { s with regs := s.regs.set n v } := by
  rw [State.setBuiltin, h]
  rfl

theorem State.setBuiltin_of_unmapped {s : State} {b : Builtin} (h : builtinReg s.cfg.builtinReg b = none) (v : Word) :
    s.setBuiltin b v = s.setBuiltinCell b v := by
  rw [State.setBuiltin, h]

/-- Settles O14: EXIT is the write of `$RTN`, to its cell or its register, and then the normal end. -/
theorem exitSetsRtnAndEndsNormally : Obligations.ExitSetsRtnAndEndsNormally := by
  intro s r v
  refine ⟨fun hcell => ⟨fun hr => ?_, ?_⟩, fun n hreg => ⟨fun hr => ?_, ?_⟩⟩
  · exact endsNormally_of_exitOp rfl (State.setBuiltin_of_unmapped (b := .rtn) hcell _) (by simp_all)
  · exact endsNormally_of_exitOp rfl (State.setBuiltin_of_unmapped (b := .rtn) hcell _) (by simp)
  · exact endsNormally_of_exitOp rfl (State.setBuiltin_of_mapped (b := .rtn) hreg _) (by simp_all)
  · exact endsNormally_of_exitOp rfl (State.setBuiltin_of_mapped (b := .rtn) hreg _) (by simp)

/-- Settles O15: the updates of TERM and ABORT read nothing, so both sides are the same state. -/
theorem termAndAbortGoIdle : Obligations.TermAndAbortGoIdle := fun _ => ⟨rfl, rfl⟩

/-- Settles O58: the call pushes the frame that RET takes off. -/
theorem callThenReturnResumesCaller : Obligations.CallThenReturnResumesCaller := by
  intro s t u lo hi a hdepth hfind hcall hu
  obtain ⟨hcalls, -⟩ := calls_of_cllOp (i := .cllII lo hi) (s := s) (len := 5) rfl rfl rfl (by simp)
  rw [hcalls a hdepth hfind] at hcall
  cases hcall
  obtain ⟨hret, -⟩ := retEndsNormally u
  exact ⟨rfl, hret _ _ hu⟩

/-- Settles O59: the write and the read of a built-in go by the same mapping. -/
theorem builtinHasOneStorage : Obligations.BuiltinHasOneStorage := by
  intro s b v
  refine ⟨fun hmapped => ?_, fun n hn => State.setBuiltin_of_mapped hn v, fun hnone => ⟨?_, fun b' hb' => ?_⟩⟩
  · cases hn : builtinReg s.cfg.builtinReg b with
    | none =>
      rw [State.builtin, State.setBuiltin_cfg, hn, State.setBuiltin_of_unmapped hn]
      cases b <;> rfl
    | some n =>
      rw [State.builtin, State.setBuiltin_cfg, hn, State.setBuiltin_of_mapped hn]
      exact s.setReg_reg_self n v (hmapped n hn)
  · rw [State.setBuiltin_regs, hnone]
  · rw [State.builtin, State.setBuiltin_cfg, State.setBuiltin_of_unmapped hnone, State.builtin]
    cases builtinReg s.cfg.builtinReg b' with
    | none => cases b <;> cases b' <;> first | rfl | exact absurd rfl hb'
    | some n => cases b <;> rfl

end Sys2Proof.Machine

/-! PROOFS. The time related instructions WAIT, DELAY, TIM (spec/43_time.md R117, R119, R121). -/

namespace Sys2Proof.Machine

open Sys2Proof.Claims

theorem max_one_eq (n : Nat) : max n 1 = if n = 0 then 1 else n := by
  split <;> omega

theorem waitOp_eq {s : State} {k : Opnd} (h : s.Has [k]) :
    waitOp k s = waiting s (s.val k).toNat (1 + operandBytes [k]) := by
  rw [waitOp, State.withOperands_of_has h, State.npc, Nat.add_assoc, max_one_eq]
  rfl

/-- Settles O16: both forms decode by their opcode and length, and park for the operand's value. -/
theorem waitParksForTicks : Obligations.WaitParksForTicks := fun _ _ =>
  ⟨encodedAs_of_opcode (fun _ => rfl) (fun _ => rfl), encodedAs_of_opcode (fun _ => rfl) (fun _ => rfl),
    raisesRegIndex _, fun _ =>
      ⟨fun hr => congrArg Host.Outcome.next (waitOp_eq (by simp_all)), congrArg Host.Outcome.next (waitOp_eq (by simp))⟩⟩

/-- An instruction that delays over this operand is a DELAY of its value. -/
theorem delays_of_delayOp {i : Instr} {s : State} {k : Opnd} {n len : Nat} (hi : exec i s = .next (delayOp k s))
    (hn : u16 (s.val k) = n) (hlen : s.npc [k] = s.pc + len) (h : s.Has [k]) : Delays i s n len := by
  rw [delayOp, State.withOperands_of_has h, hlen, hn] at hi
  dsimp only at hi
  refine ⟨fun hlate => ?_, fun hpast hnow => ?_, fun hpast htarget => ?_⟩
  · rw [hi, if_neg (Nat.not_le.mpr hlate)]
  · rw [hi, if_pos hpast, hnow]
  · rw [hi, if_pos hpast, htarget]

/-- Settles O17: both forms delay by the operand's value. -/
theorem delayWaitsOrRebases : Obligations.DelayWaitsOrRebases := fun _ _ _ =>
  ⟨fun hr => delays_of_delayOp rfl rfl rfl (by simp_all), delays_of_delayOp rfl rfl rfl (by simp)⟩

/-- An instruction that waits for LOBT over this operand is a TIM of its value. -/
theorem waitsUntil_of_timOp {i : Instr} {s : State} {k : Opnd} {n len : Nat} (hi : exec i s = .next (timOp k s))
    (hn : u16 (s.val k) = n) (hlen : s.npc [k] = s.pc + len) (h : s.Has [k]) : WaitsUntil i s n len := by
  rw [timOp, State.withOperands_of_has h, hlen, hn] at hi
  dsimp only at hi
  refine ⟨fun hearly => ?_, fun hpast => ?_⟩
  · rw [hi, if_neg (Nat.not_le.mpr hearly)]
  · rw [hi, if_pos hpast]

/-- Settles O19: both forms decode by their opcode and length, and wait for the operand's value. -/
theorem timWaitsForLobt : Obligations.TimWaitsForLobt := fun _ _ =>
  ⟨encodedAs_of_opcode (fun _ => rfl) (fun _ => rfl), encodedAs_of_opcode (fun _ => rfl) (fun _ => rfl),
    raisesRegIndex _, fun _ =>
      ⟨fun hr => waitsUntil_of_timOp rfl rfl rfl (by simp_all), waitsUntil_of_timOp rfl rfl rfl (by simp)⟩⟩

end Sys2Proof.Machine

/-! PROOFS. The assignment instructions (spec/44_assignment.md R131 to R134). -/

namespace Sys2Proof.Machine

open Sys2Proof.Claims

theorem setOp_eq {s : State} {d : Reg} {k : Opnd} (h : s.Has [.reg d, k]) :
    setOp d k s = { s with regs := wr s d (s.val k), pc := s.npc [.reg d, k] } := by
  rw [setOp, State.withOperands_of_has h]
  rfl

/-- Settles O21: both forms decode by their opcode and length, and copy the operand's value. -/
theorem setCopiesWord : Obligations.SetCopiesWord := fun _ _ _ =>
  ⟨encodedAs_of_opcode (fun _ => rfl) (fun _ => rfl), encodedAs_of_opcode (fun _ => rfl) (fun _ => rfl),
    raisesRegIndex _, raisesRegIndex _, fun _ hd =>
      ⟨fun ha => congrArg Host.Outcome.next (setOp_eq (by simp_all)),
        congrArg Host.Outcome.next (setOp_eq (by simp_all))⟩⟩

/-- An instruction that sets a run over these operands is a SETREGS of their values. -/
theorem setsRun_of_setregsOp {i : Instr} {s : State} {d n : Opnd} {first count h : Nat}
    (hi : exec i s = .next (setregsOp d n s)) (hfirst : u16 (s.val d) = first) (hcount : u16 (s.val n) = count)
    (hlen : s.npc [d, n] = h) (hops : s.Has [d, n]) : SetsRun i s first count h := by
  rw [setregsOp, State.withOperands_of_has hops, hlen, hfirst, hcount] at hi
  dsimp only at hi
  refine ⟨fun hrun hend => ⟨s.loadRun count first h s.regs, ?_, State.loadRun_length _ _ _ _ _,
    fun x => State.loadRun_getD s _ _ _ _ x hrun⟩, fun hpos hpast => ?_, fun hrun hend => ?_⟩
  · rw [hi, if_neg fun hc => hrun.elim hc.1.ne' (Nat.not_le.mpr hc.2), if_neg (Nat.not_lt.mpr hend)]
  · rw [hi, if_pos ⟨hpos, hpast⟩]
    rfl
  · rw [hi, if_neg fun hc => hrun.elim hc.1.ne' (Nat.not_le.mpr hc.2), if_pos hend]
    rfl

/-- Settles O22: each form sets the run its operand values name. -/
theorem setregsLoadsRun : Obligations.SetregsLoadsRun := by
  intro s a b u v
  refine ⟨fun hab => ?_, fun ha => ?_, fun hb => ?_, ?_⟩
  all_goals exact setsRun_of_setregsOp rfl rfl rfl rfl (by simp_all)

theorem ccAdmits_iff (c : Config) (a : Word) : ccAdmits c a = true ↔ a ∉ c.ccExcluded := by
  simp [ccAdmits]

/-- An instruction that loads from the CC over this operand is an LDA of its value. -/
theorem loadsCc_of_ldaOp {i : Instr} {s : State} {d : Reg} {k : Opnd} {a : Word} {len : Nat}
    (hi : exec i s = .next (ldaOp d k s)) (ha : s.val k = a) (hlen : s.npc [.reg d, k] = s.pc + len)
    (h : s.Has [.reg d, k]) : LoadsCc i s d a len := by
  subst ha
  rw [ldaOp, State.withOperands_of_has h, hlen] at hi
  dsimp only at hi
  refine ⟨fun hadmit => ?_, fun hexcl => ?_⟩
  · rw [hi, if_pos ((ccAdmits_iff _ _).mpr hadmit)]
    rfl
  · rw [hi, if_neg fun hc => (ccAdmits_iff _ _).mp hc hexcl]
    rfl

/-- Settles O23: both forms load from the operand's value. -/
theorem ldaLoadsOracleWord : Obligations.LdaLoadsOracleWord := fun _ _ _ _ hd =>
  ⟨fun ha => loadsCc_of_ldaOp rfl rfl rfl (by simp_all), loadsCc_of_ldaOp rfl rfl rfl (by simp_all)⟩

theorem exec_ldrRR_of_has {s : State} {d p : Reg} (h : s.Has [.reg d, .reg p]) : exec (.ldrRR d p) s = .next (
    if d = p then s.refuse .ldrSameRegister
    else if s.nregs ≤ (rv s p).toNat then s.raise (.regIndex (rv s p).toNat)
    else { s with
      regs := (wr s d (s.reg (rv s p).toNat)).set p.toNat (trunc16 ((rv s p).toNat + 1))
      pc := s.pc + 3 }) :=
  congrArg Host.Outcome.next (State.withOperands_of_has h _)

/-- Settles O24: LDR decides by the two register bytes first and by the pointer's old value next. -/
theorem ldrLoadsAndIncrements : Obligations.LdrLoadsAndIncrements := by
  intro s d p hdp
  have hexec := exec_ldrRR_of_has (s := s) (d := d) (p := p) (by simp_all)
  refine ⟨fun hne hin => ?_, fun heq => ?_, fun hne hout => ?_⟩
  · rw [hexec, if_neg hne, if_neg (Nat.not_le.mpr hin), ← Nat.cast_one, ← Nat.cast_add, trunc16_natCast]
  · rw [hexec, if_pos heq]
    rfl
  · rw [hexec, if_neg hne, if_pos hout]
    rfl

end Sys2Proof.Machine

/-! PROOFS. The observing instructions (spec/45_observing.md R141 to R152). -/

namespace Sys2Proof.Machine

open Sys2Proof.Claims

/-! ### FRAME and FRMPF -/

/-- The key of a frame definition block, by division (R144). -/
theorem fdbKey_eq (fid : Word) : fdbKey fid = BitVec.ofNat 13 (fid.toNat / 8) := by
  apply BitVec.eq_of_toNat_eq
  simp [fdbKey, Nat.shiftRight_eq_div_pow]

theorem hasFdb_iff (t : Tables) (fid : Word) :
    hasFdb t (fdbKey fid) = true ↔ BitVec.ofNat 13 (fid.toNat / 8) ∈ t.fdbKeys := by
  rw [hasFdb, fdbKey_eq, List.contains_iff_mem]

theorem hasPzt_iff (t : Tables) (i : Word) : hasPzt t i = true ↔ i = 0 ∨ i ∈ t.pztIndices := by
  simp [hasPzt]

/-- An instruction that takes a frame over this operand is a FRAME of its value. -/
theorem takesFrame_of_frameOp {i : Instr} {s : State} {k : Opnd} {fid : Word} {len : Nat}
    (hi : exec i s = .next (frameOp k s)) (hfid : s.val k = fid) (hlen : s.npc [k] = s.pc + len) (h : s.Has [k]) :
    TakesFrame i s fid len := by
  subst hfid
  rw [frameOp, State.withOperands_of_has h, hlen] at hi
  dsimp only at hi
  refine ⟨fun hfdb => ?_, fun hfdb => ?_⟩
  · rw [hi, if_pos ((hasFdb_iff _ _).mpr hfdb)]
    rfl
  · rw [hi, if_neg (mt (hasFdb_iff _ _).mp hfdb)]
    rfl

/-- Settles O25: both forms take the frame of the operand's value. -/
theorem frameRequestsPicture : Obligations.FrameRequestsPicture := fun _ _ _ =>
  ⟨fun hr => takesFrame_of_frameOp rfl rfl rfl (by simp_all), takesFrame_of_frameOp rfl rfl rfl (by simp)⟩

/-- An instruction that takes a frame with offsets over these operands is a FRMPF of their values. -/
theorem takesFrmpf_of_frmpfOp {i : Instr} {s : State} {k k' k'' : Opnd} {fid pzto fo : Word} {len : Nat}
    (hi : exec i s = .next (frmpfOp k k' k'' s)) (hfid : s.val k = fid) (hpzto : s.val k' = pzto) (hfo : s.val k'' = fo)
    (hlen : s.npc [k, k', k''] = s.pc + len) (h : s.Has [k, k', k'']) : TakesFrmpf i s fid pzto fo len := by
  subst hfid hpzto hfo
  rw [frmpfOp, State.withOperands_of_has h, hlen] at hi
  dsimp only at hi
  refine ⟨fun hfdb hpzt => ?_, fun hfdb => ?_, fun hfdb hzero hpzt => ?_⟩
  · rw [hi, if_pos ((hasFdb_iff _ _).mpr hfdb), if_pos ((hasPzt_iff _ _).mpr hpzt)]
    rfl
  · rw [hi, if_neg (mt (hasFdb_iff _ _).mp hfdb)]
    rfl
  · rw [hi, if_pos ((hasFdb_iff _ _).mpr hfdb), if_neg (mt (hasPzt_iff _ _).mp (not_or.mpr ⟨hzero, hpzt⟩))]
    rfl

/-- Settles O26: each form takes the frame of its operand values. -/
theorem frmpfRequestsOffsetPicture : Obligations.FrmpfRequestsOffsetPicture := by
  intro s a b c u v w
  refine ⟨fun habc => ?_, fun hab => ?_, fun hac => ?_, fun ha => ?_, fun hbc => ?_, fun hb => ?_, fun hc => ?_, ?_⟩
  all_goals exact takesFrmpf_of_frmpfOp rfl rfl rfl rfl rfl (by simp_all)

/-! ### SAMP and STTG -/

theorem sampOp_eq {s : State} {k k' : Opnd} (h : s.Has [k, k']) :
    sampOp k k' s = sampled s (s.val k) (s.val k') (1 + operandBytes [k, k']) := by
  rw [sampOp, State.withOperands_of_has h, State.npc, Nat.add_assoc]
  simp only [ite_not]
  rfl

/-- Settles O27: each form decodes by its opcode and length, and sets the cells from its operand values. -/
theorem sampSetsNonzeroCells : Obligations.SampSetsNonzeroCells := by
  intro a b u v
  refine ⟨encodedAs_of_opcode (fun _ => rfl) (fun _ => rfl), encodedAs_of_opcode (fun _ => rfl) (fun _ => rfl),
    encodedAs_of_opcode (fun _ => rfl) (fun _ => rfl), encodedAs_of_opcode (fun _ => rfl) (fun _ => rfl),
    raisesRegIndex _, raisesRegIndex _, raisesRegIndex _, fun s => ⟨fun hab => ?_, fun ha => ?_, fun hb => ?_, ?_⟩⟩
  all_goals exact congrArg Host.Outcome.next (sampOp_eq (by simp_all))

/-- The key of a pointing target, by division (R147). -/
theorem pctKey_eq (id : SeqId) : pctKey id = BitVec.ofNat 24 (id.toNat / 256) := by
  apply BitVec.eq_of_toNat_eq
  simp [pctKey, Nat.shiftRight_eq_div_pow]

/-- The last target with the key is the one found (R152). -/
theorem pctFind_of_last {t : Tables} {key : BitVec 24} {pre post : List (BitVec 24 × WedgePositions)} {w : WedgePositions}
    (hpct : t.pct = pre ++ (key, w) :: post) (hpost : ∀ e ∈ post, e.1 ≠ key) : pctFind t key = some w := by
  have hnone : post.reverse.find? (fun e => decide (e.1 = key)) = none := by
    simpa [List.find?_eq_none] using hpost
  simp [pctFind, hpct, hnone]

theorem pctFind_of_missing {t : Tables} {key : BitVec 24} (h : ∀ e ∈ t.pct, e.1 ≠ key) : pctFind t key = none := by
  simpa [pctFind, List.find?_eq_none] using h

/-- An instruction that sets a target over these operands is an STTG of the ID made of their values. -/
theorem setsTarget_of_sttgOp {i : Instr} {s : State} {lo hi : Opnd} {id : SeqId} {len : Nat}
    (hexec : exec i s = .next (sttgOp lo hi s)) (hid : seqId (s.val lo) (s.val hi) = id)
    (hlen : s.npc [lo, hi] = s.pc + len) (h : s.Has [lo, hi]) : SetsTarget i s id len := by
  subst hid
  rw [sttgOp, State.withOperands_of_has h, hlen] at hexec
  simp only [pctKey_eq] at hexec
  refine ⟨fun pre post w hpct hpost => ?_, fun hmissing => ?_⟩
  · simp only [pctFind_of_last hpct hpost] at hexec
    exact hexec
  · simp only [pctFind_of_missing hmissing] at hexec
    exact hexec

/-- Settles O28: each form sets the target made of its operand values. -/
theorem sttgRequestsTarget : Obligations.SttgRequestsTarget := by
  intro s a b u v
  refine ⟨fun hab => ?_, fun ha => ?_, fun hb => ?_, ?_⟩
  all_goals exact setsTarget_of_sttgOp rfl rfl rfl (by simp_all)

/-! ### LOCKBUF -/

theorem hasCurrentBuffer_iff (f : Flare) : hasCurrentBuffer f = true ↔ ∃ b ∈ f.buffers, f.current = some b.1 := by
  simp [hasCurrentBuffer]

/-- Writing a built-in and replacing the flare buffers do not meet. -/
theorem State.setBuiltin_withFlare (s : State) (f : Flare) (b : Builtin) (v : Word) :
    (s.withFlare f).setBuiltin b v = (s.setBuiltin b v).withFlare f := by
  cases hn : builtinReg s.cfg.builtinReg b with
  | none =>
    rw [State.setBuiltin_of_unmapped hn, State.setBuiltin_of_unmapped (s := s.withFlare f) hn]
    cases b <;> rfl
  | some n =>
    rw [State.setBuiltin_of_mapped hn, State.setBuiltin_of_mapped (s := s.withFlare f) hn]
    rfl

@[simp] theorem State.withFlare_builtin (s : State) (f : Flare) (b : Builtin) :
    (s.withFlare f).builtin b = s.builtin b := by
  cases b <;> rfl

/-- What LOCKBUF leaves: the two built-ins, the flare buffers and the event. -/
theorem State.lockCurrent_eq_setBuiltin (s : State) :
    s.lockCurrent = ((((s.setBuiltin .nbf (BitVec.ofNat 16 ((s.builtin .nbf).toNat + 65535))).setBuiltin .cbf
      (Config.nextAvailable (lockFlare s.flare)).2).withFlare
        { lockFlare s.flare with current := (Config.nextAvailable (lockFlare s.flare)).1 }).emit .lockBuf) := by
  rw [State.lockCurrent_eq, State.withFlare_builtin, trunc16_sub_one, State.setBuiltin_withFlare,
    State.setBuiltin_withFlare, State.setBuiltin_withFlare]
  rfl

/-- Settles O29: with a current buffer the four writes of LOCKBUF are the update named, without one only the pc moves. -/
theorem lockbufLocksCurrentBuffer : Obligations.LockbufLocksCurrentBuffer := by
  rintro s locked rfl
  refine ⟨fun hcur => ?_, fun hnone => ?_⟩
  · have hlock : lockbufOp s = { s.lockCurrent with pc := s.pc + 1 } := if_pos ((hasCurrentBuffer_iff _).mpr hcur)
    refine congrArg Host.Outcome.next (hlock.trans ?_)
    rw [State.lockCurrent_eq_setBuiltin]
    simp [State.withFlare, State.emit, lockFlare]
  · refine congrArg Host.Outcome.next (if_neg fun hc => ?_)
    obtain ⟨b, hb, hcur⟩ := (hasCurrentBuffer_iff _).mp hc
    exact hnone b hb hcur

/-! ### STARTAVE and UPDIMAX -/

/-- Settles O31: F0 in one byte, and an update that reads nothing. -/
theorem startaveSetsFlag : Obligations.StartaveSetsFlag :=
  ⟨encodedAs_of_opcode (fun _ => rfl) (fun _ => rfl), fun s => by rw [exec, execStartave, startaveOp, State.npc_nil]; rfl⟩

/-- Settles O32: F2 in one byte, and the coordinates of the draw. -/
theorem updimaxTakesOracleCoordinates : Obligations.UpdimaxTakesOracleCoordinates :=
  ⟨encodedAs_of_opcode (fun _ => rfl) (fun _ => rfl), fun s => by rw [exec, execUpdimax, updimaxOp, State.npc_nil]; rfl⟩

end Sys2Proof.Machine

/-! PROOFS. The steps that execute no instruction (spec/60_exceptions.md R170, R173, R174; spec/43_time.md R118, R123;
spec/45_observing.md R142, R146) and the search for a sequence (spec/20_memory.md R38). -/

namespace Sys2Proof.Machine

open Sys2Proof.Claims

/-! ### A scheduled event -/

theorem step_of_event_some {s t : State} {a : Action} {l : List Action} (h : s.schedule = a :: l) (ha : a ≠ .exec)
    (he : ({ s with schedule := l } : State).event a = some t) : step s = .next t := by
  rw [step_scheduled s a l h, act_event a _ ha, he]

theorem step_of_event_none {s : State} {a : Action} {l : List Action} (h : s.schedule = a :: l) (ha : a ≠ .exec)
    (he : ({ s with schedule := l } : State).event a = none) : step s = .fault (.notEnabled a) := by
  rw [step_scheduled s a l h, act_event a _ ha, he]

/-! ### The start of a pending command -/

theorem Mode.admitsStart_iff (m : Mode) : m.admitsStart = true ↔ MayStart m := by
  cases m <;> simp [Mode.admitsStart, MayStart]

theorem State.startCommand_found {s : State} {c : Command} {a : Nat} (h : s.findSeq c.first = some a) :
    s.startCommand c = started s c a :=
  State.startSeq_found _ _ a
    ((State.findSeq_congr s { s with pending := none, callStack := [], seqList := c.rest } rfl rfl _).trans h)

theorem State.startCommand_missing {s : State} {c : Command} (h : s.findSeq c.first = none) :
    s.startCommand c = startFailed s c :=
  State.startSeq_missing _ _
    ((State.findSeq_congr s { s with pending := none, callStack := [], seqList := c.rest } rfl rfl _).trans h)

theorem State.event_startPending {s : State} {c : Command} (hp : s.pending = some c) (hm : MayStart s.mode) :
    s.event .startPending = some (s.startCommand c) := by
  rw [State.event, if_pos (s.mode.admitsStart_iff.mpr hm), hp]
  rfl

theorem State.event_startPending_none {s : State} (h : s.pending = none ∨ ¬MayStart s.mode) :
    s.event .startPending = none := by
  rw [State.event]
  split
  · rename_i hm
    rw [h.resolve_right (not_not.mpr (s.mode.admitsStart_iff.mp hm))]
    rfl
  · rfl

/-- Settles O52: the start is enabled by a pending command in a mode that lets it start, and enters its first sequence. -/
theorem startPendingEntersFirstSequence : Obligations.StartPendingEntersFirstSequence := by
  intro s l hs
  refine ⟨fun c hp hm => ?_, fun h => ?_⟩
  · have hstep : step s = .next (({ s with schedule := l } : State).startCommand c) :=
      step_of_event_some hs (by decide) (State.event_startPending hp hm)
    have hfind : ({ s with schedule := l } : State).findSeq c.first = s.findSeq c.first :=
      State.findSeq_congr s { s with schedule := l } rfl rfl c.first
    exact ⟨fun a ha => hstep.trans (congrArg _ (State.startCommand_found (hfind.trans ha))),
      fun ha => hstep.trans (congrArg _ (State.startCommand_missing (hfind.trans ha)))⟩
  · exact step_of_event_none hs (by decide) (State.event_startPending_none h)

/-- Settles O60: with an empty schedule the default step of a machine that does not run is the start, where enabled. -/
theorem emptyScheduleStep : Obligations.EmptyScheduleStep := by
  intro s hs hmode
  have hstep : step s = if s.startEnabled then act .startPending s else .fault .stuck := by
    rw [step_default s hs, defaultStep, if_neg hmode]
  refine ⟨fun c hp hm => ?_, fun h => ?_⟩
  · have hen : s.startEnabled = true := by simp [State.startEnabled, hp, s.mode.admitsStart_iff.mpr hm]
    rw [if_pos hen, act_event _ s (by decide), State.event_startPending hp hm] at hstep
    exact ⟨fun a ha => hstep.trans (congrArg _ (State.startCommand_found ha)),
      fun ha => hstep.trans (congrArg _ (State.startCommand_missing ha))⟩
  · rw [hstep, if_neg]
    intro hen
    obtain ⟨hp, hm⟩ : s.pending.isSome = true ∧ s.mode.admitsStart = true := by simpa [State.startEnabled] using hen
    have hnone : s.pending = none := h.resolve_right (not_not.mpr (s.mode.admitsStart_iff.mp hm))
    simp [hnone] at hp

/-- Settles O44: reset's cells by evaluation; nothing is pending, so with its empty schedule it has no step. -/
theorem resetIsIdle : Obligations.ResetIsIdle :=
  ⟨rfl, rfl, rfl, rfl, rfl, rfl, (emptyScheduleStep State.reset rfl (by decide)).2 (.inl rfl)⟩

/-! ### Ticks -/

/-- The tick that ends a WAIT (R118). -/
theorem State.tick_waitTicks_one {s : State} (h : s.mode = .waitTicks 1) :
    s.tick = { s with nowTicks := s.nowTicks + 1, mode := .running } := by
  simp only [State.tick, h]

/-- A tick before the last counts a WAIT down (R118). -/
theorem State.tick_waitTicks_of_lt {s : State} {k : Nat} (hk : 1 < k) (h : s.mode = .waitTicks k) :
    s.tick = { s with nowTicks := s.nowTicks + 1, mode := .waitTicks (k - 1) } := by
  obtain ⟨j, rfl⟩ : ∃ j, k = j + 2 := ⟨k - 2, by omega⟩
  simp only [State.tick, h]
  rfl

/-- The tick that ends a DELAY sets the delay time (R118). -/
theorem State.tick_waitDelay_of_le {s : State} {t : Nat} (h : s.mode = .waitDelay t) (ht : t ≤ s.nowTicks + 1) :
    s.tick = { s with nowTicks := s.nowTicks + 1, delayTime := s.nowTicks + 1, mode := .running } := by
  simp only [State.tick, h, if_pos ht]

/-- Any other tick only counts (R118). -/
theorem State.tick_of_other {s : State} (hwait : ∀ k, 0 < k → s.mode ≠ .waitTicks k)
    (hdelay : ∀ t, s.mode = .waitDelay t → s.nowTicks + 1 < t) : s.tick = { s with nowTicks := s.nowTicks + 1 } := by
  simp only [State.tick]
  split
  · exact absurd ‹_› (hwait 1 (by decide))
  · exact absurd ‹_› (hwait _ (Nat.succ_pos _))
  · exact if_neg (Nat.not_le.mpr (hdelay _ ‹_›))
  · rfl

/-- A scheduled tick is a step in every mode. -/
theorem step_tick {s : State} {l : List Action} (h : s.schedule = .tick :: l) :
    step s = .next ({ s with schedule := l } : State).tick :=
  step_of_event_some h (by decide) rfl

/-- Settles O53: the four things a tick can do, by the mode. -/
theorem tickCountsAndEndsWaits : Obligations.TickCountsAndEndsWaits := fun _ _ h =>
  ⟨fun hm => (step_tick h).trans (congrArg _ (State.tick_waitTicks_one hm)),
    fun _ hk hm => (step_tick h).trans (congrArg _ (State.tick_waitTicks_of_lt hk hm)),
    fun _ hm ht => (step_tick h).trans (congrArg _ (State.tick_waitDelay_of_le hm ht)),
    fun hwait hdelay => (step_tick h).trans (congrArg _ (State.tick_of_other hwait hdelay))⟩

/-- The state a WAIT of `k` ticks is in after `n` of them, with nothing scheduled. -/
def State.waitedFor (s : State) (k n : Nat) : State :=
  { s with
    nowTicks := s.nowTicks + n
    mode := if n = k then .running else .waitTicks (k - n)
    schedule := [] }

theorem stepsFrom_ticks {s : State} {k n : Nat} (hmode : s.mode = .waitTicks k) (hk : 1 ≤ k) (hn : n ≤ k) :
    stepsFrom n { s with schedule := List.replicate n .tick } = .next (s.waitedFor k n) := by
  induction n generalizing s k with
  | zero =>
    rw [stepsFrom, State.waitedFor, if_neg (by omega), Nat.sub_zero, ← hmode]
    rfl
  | succ n ih =>
    rw [stepsFrom, step_tick (l := List.replicate n .tick) rfl]
    by_cases hlast : k = 1
    · subst hlast
      obtain rfl : n = 0 := by omega
      rw [State.tick_waitTicks_one (s := { s with schedule := List.replicate 0 .tick }) hmode]
      rfl
    · have hnext : ({ s with schedule := List.replicate n .tick } : State).tick =
          { s with nowTicks := s.nowTicks + 1, mode := .waitTicks (k - 1), schedule := List.replicate n .tick } :=
        State.tick_waitTicks_of_lt (by omega) hmode
      rw [hnext]
      refine (ih (s := { s with nowTicks := s.nowTicks + 1, mode := .waitTicks (k - 1) }) rfl (by omega)
        (by omega)).trans ?_
      simp only [State.waitedFor, Nat.add_assoc, Nat.add_comm 1 n, Nat.sub_sub, show n = k - 1 ↔ n + 1 = k by omega]

/-- Settles O54: each tick before the last takes one off the count, by induction on the number of ticks. -/
theorem waitEndsAtLastTick : Obligations.WaitEndsAtLastTick := fun _ _ _ hmode hk hn => stepsFrom_ticks hmode hk hn

/-! ### The other events -/

theorem State.setLobt_of_le {s : State} {v t : Nat} (h : s.mode = .waitTime t) (ht : t ≤ v) :
    s.setLobt v = { s with lobt := v, mode := .running } := by
  simp only [State.setLobt, h, if_pos ht]

theorem State.setLobt_of_other {s : State} {v : Nat} (h : ∀ t, s.mode = .waitTime t → v < t) :
    s.setLobt v = { s with lobt := v } := by
  unfold State.setLobt
  split
  · exact if_neg (Nat.not_le.mpr (h _ ‹_›))
  · rfl

theorem step_lobt {s : State} {v : Nat} {l : List Action} (h : s.schedule = .lobt v :: l) (hv : s.lobt ≤ v) :
    step s = .next (({ s with schedule := l } : State).setLobt v) :=
  step_of_event_some h nofun (if_pos hv)

theorem step_envWrite {s : State} {w : EnvWrite} {l : List Action} (h : s.schedule = .envWrite w :: l) :
    step s = .next (({ s with schedule := l } : State).envWrite w) :=
  step_of_event_some h nofun rfl

/-- The environment's write of a built-in is the sequencer's own. -/
theorem writesBuiltin_of_step {s : State} {l : List Action} {b : Builtin} {v : Word}
    (h : step s = .next (({ s with schedule := l } : State).setBuiltin b v)) :
    WritesBuiltin s l (builtinReg s.cfg.builtinReg b) (fun t => t.setBuiltinCell b v) v :=
  ⟨fun hnone => h.trans (congrArg _ (State.setBuiltin_of_unmapped (s := { s with schedule := l }) hnone v)),
    fun _ hn => h.trans (congrArg _ (State.setBuiltin_of_mapped (s := { s with schedule := l }) hn v))⟩

/-- Settles O55: each event is enabled where the statement says and is the update it names. -/
theorem environmentEventsStep : Obligations.EnvironmentEventsStep := by
  intro s l
  refine ⟨fun v h hv => ⟨fun t hm ht => ?_, fun hm => ?_⟩, fun v h hv => ?_, fun r h => ⟨fun hm => ?_, fun hm => ?_⟩,
    fun h => ⟨fun hm => ?_, fun hm => ?_⟩, fun c h => ?_, ?_⟩
  · exact (step_lobt h hv).trans (congrArg _ (State.setLobt_of_le hm ht))
  · exact (step_lobt h hv).trans (congrArg _ (State.setLobt_of_other hm))
  · exact step_of_event_none h nofun (if_neg (Nat.not_le.mpr hv))
  · exact step_of_event_some h nofun (if_pos hm)
  · exact step_of_event_none h nofun (if_neg hm)
  · exact step_of_event_some h nofun (if_pos hm)
  · exact step_of_event_none h nofun (if_neg hm)
  · exact step_of_event_some h nofun rfl
  · exact ⟨fun _ _ h => step_envWrite h, fun _ h => step_envWrite h,
      fun _ h => writesBuiltin_of_step (b := .nbf) (step_envWrite h),
      fun _ h => writesBuiltin_of_step (b := .cbf) (step_envWrite h), fun _ h => step_envWrite h,
      fun _ h => step_envWrite h, fun h => step_envWrite h, fun _ h => step_envWrite h, fun _ h => step_envWrite h⟩

/-! ### The search for a sequence -/

theorem headerOpcode_iff (op : Byte) : headerOpcode op = true ↔ op = 0xE1 ∨ op = 0xAC := by
  simp [headerOpcode]

/-- One visit of the search: it ends at no header, or at the header with the ID, and else follows the chain (R38). -/
theorem State.findFrom_succ (s : State) (id : SeqId) (fuel a : Nat) (x : Nat) :
    s.findFrom id (fuel + 1) a = some x ↔
      HeaderAt s a ∧ ((idAt s a = id ∧ a = x) ∨
        (idAt s a ≠ id ∧ s.findFrom id fuel (s.wordAt (a + 5)).toNat = some x)) := by
  have hid : seqId (s.wordAt (a + 1)) (s.wordAt (a + 3)) = idAt s a := rfl
  rw [State.findFrom, hid]
  by_cases hend : a + headerLength > s.cfg.seqSize
  · have hno : ¬HeaderAt s a := fun hh => Nat.not_lt.mpr hh.1 hend
    simp [hend, hno]
  · by_cases hop : headerOpcode (s.mem.read a) = true
    · have hh : HeaderAt s a := ⟨Nat.not_lt.mp hend, (headerOpcode_iff _).mp hop⟩
      by_cases hmatch : idAt s a = id <;> simp [hend, hop, hh, hmatch]
    · have hno : ¬HeaderAt s a := fun hh => hop ((headerOpcode_iff _).mpr hh.2)
      simp [hend, hop, hno]

/-- The search from the `n`-th address of the chain answers the first match among the headers it may visit. -/
theorem State.findFrom_chainAt (s : State) (id : SeqId) (fuel n a : Nat) :
    s.findFrom id fuel (chainAt s n) = some a ↔
      ∃ k, n ≤ k ∧ k < n + fuel ∧ chainAt s k = a ∧ idAt s a = id ∧ HeaderAt s a ∧
        ∀ j, n ≤ j → j < k → HeaderAt s (chainAt s j) ∧ idAt s (chainAt s j) ≠ id := by
  induction fuel generalizing n with
  | zero =>
    constructor
    · nofun
    · rintro ⟨k, hnk, hk, -⟩
      omega
  | succ fuel ih =>
    have hnext : (s.wordAt (chainAt s n + 5)).toNat = chainAt s (n + 1) := rfl
    rw [State.findFrom_succ, hnext, ih]
    constructor
    · rintro ⟨hh, ⟨hid, rfl⟩ | ⟨hid, k, hnk, hk, ha, hida, hha, hbefore⟩⟩
      · exact ⟨n, le_rfl, by omega, rfl, hid, hh, fun j hj hjn => absurd hjn (Nat.not_lt.mpr hj)⟩
      · refine ⟨k, by omega, by omega, ha, hida, hha, fun j hj hjk => ?_⟩
        rcases Nat.eq_or_lt_of_le hj with rfl | hj
        · exact ⟨hh, hid⟩
        · exact hbefore j hj hjk
    · rintro ⟨k, hnk, hk, rfl, hid, hh, hbefore⟩
      rcases Nat.eq_or_lt_of_le hnk with rfl | hnk
      · exact ⟨hh, .inl ⟨hid, rfl⟩⟩
      · obtain ⟨hhn, hidn⟩ := hbefore n le_rfl hnk
        exact ⟨hhn, .inr ⟨hidn, k, hnk, by omega, rfl, hid, hh, fun j hj hjk => hbefore j (by omega) hjk⟩⟩

/-- Settles O57: FindSeq is the search from the head of the chain with fuel for every header. -/
theorem findSeqIsFirstMatchOnChain : Obligations.FindSeqIsFirstMatchOnChain := by
  intro s id a
  refine (s.findFrom_chainAt id s.cfg.seqSize 0 a).trans ?_
  simp

end Sys2Proof.Machine

/-! PROOFS. What an instruction can leave, said once (spec/60_exceptions.md R160, R175): the cases of `Leaves`. What
holds along every run is then read off the cases, here and for the events below. -/

namespace Sys2Proof.Machine

open Sys2Proof.Claims

/-! ### Registers written -/

/-- The register file differs from the state's in these registers at most. -/
def RegsWithin (s : State) (ns : List Nat) (regs : List Word) : Prop :=
  regs.length = s.regs.length ∧ ∀ n, n ∉ ns → regs.getD n 0 = s.reg n

theorem regsWithin_self (s : State) (ns : List Nat) : RegsWithin s ns s.regs := ⟨rfl, fun _ _ => rfl⟩

theorem RegsWithin.set {s : State} {ns : List Nat} {regs : List Word} (h : RegsWithin s ns regs) {m : Nat} (hm : m ∈ ns)
    (v : Word) : RegsWithin s ns (regs.set m v) := by
  obtain ⟨hlen, hreg⟩ := h
  refine ⟨by rw [List.length_set, hlen], fun n hn => ?_⟩
  have hne : m ≠ n := fun e => hn (e ▸ hm)
  rw [← hreg n hn]
  simp [List.getElem?_set_ne hne]

theorem regsWithin_loadRun {s : State} {first count h : Nat} (hrun : count = 0 ∨ first + count ≤ s.nregs) :
    RegsWithin s (List.range' first count) (s.loadRun count first h s.regs) := by
  refine ⟨State.loadRun_length _ _ _ _ _, fun n hn => ?_⟩
  rw [State.loadRun_getD s count first h s.regs n hrun, if_neg (by simpa using hn)]
  rfl

/-! ### The cases -/

/-- The waits an instruction may enter keep their promise (R20). -/
inductive Parks (s : State) : Mode → Prop
  | ticks {k : Nat} (h : 1 ≤ k) : Parks s (.waitTicks k)
  | delay {t : Nat} (h : s.nowTicks < t) : Parks s (.waitDelay t)
  | time {t : Nat} (h : s.lobt < t) : Parks s (.waitTime t)
  | frame : Parks s .waitFrame
  | slew : Parks s .waitSlew

/-- The instructions that end a sequence normally. -/
def Ends (i : Instr) : Prop := i = .ret ∨ (∃ r, i = .exitR r) ∨ ∃ v, i = .exitI v

/-- The states an instruction can leave. -/
inductive Leaves (i : Instr) (s : State) : State → Prop
  /-- A fault (R160). -/
  | raised (c : Cause) : Leaves i s (s.raise c)
  /-- A refusal (R162). -/
  | refused (r : Reason) : Leaves i s (s.refuse r)
  /-- The sequence goes on, at the next instruction or at another address of sequence space, or parks there. -/
  | wentOn {regs : List Word} {pc : Nat} {nbf cbf : Word} {refTime delayTime : Nat} {mode : Mode} {hkSeqId : SeqId}
      {camAmp camAdcOffset : Word} {aecCur : Vector Nat 128} {startAve : Bool} {imaxRow imaxCol : Nat} {flare : Flare}
      {wedgeRequest : WedgePositions} {trace : List Event} {draws : Nat}
      (hregs : RegsWithin s (writtenRegs s i) regs)
      (hpc : pc = s.npc i.operands ∨ pc ≤ s.cfg.seqSize)
      (hmode : mode = s.mode ∨ Parks s mode := by exact .inl rfl)
      (htrace : ∃ es, trace = s.trace ++ es := by exact ⟨[], (List.append_nil _).symm⟩)
      (href : refTime = s.refTime ∨ (i = .srt ∧ refTime = s.lobt) := by exact .inl rfl) :
      Leaves i s { s with
        regs := regs, pc := pc, nbf := nbf, cbf := cbf, refTime := refTime, delayTime := delayTime, mode := mode
        hkSeqId := hkSeqId, camAmp := camAmp, camAdcOffset := camAdcOffset, aecCur := aecCur, startAve := startAve
        imaxRow := imaxRow, imaxCol := imaxCol, flare := flare, wedgeRequest := wedgeRequest, trace := trace
        draws := draws }
  /-- A call (R96). -/
  | called {a d : Nat} {id : SeqId} (hdepth : s.callStack.length ≠ s.cfg.callDepth) (hfind : s.findSeq id = some a) :
      Leaves i s { s with callStack := ⟨s.npc i.operands, s.delayTime⟩ :: s.callStack, delayTime := d, pc := a }
  /-- A return to the caller (R99). -/
  | returned {regs : List Word} {rtn nbf cbf : Word} {f : Frame} {fs : List Frame}
      (hregs : RegsWithin s (writtenRegs s i) regs) (hstack : s.callStack = f :: fs) :
      Leaves i s { s with
        regs := regs, rtn := rtn, nbf := nbf, cbf := cbf
        callStack := fs, pc := f.ret, delayTime := f.delay, mode := .running }
  /-- The start of the next sequence of the list (R99). -/
  | nextOfList {regs : List Word} {rtn nbf cbf : Word} {id : SeqId} {ids : List SeqId} {a : Nat}
      (hregs : RegsWithin s (writtenRegs s i) regs) (hstack : s.callStack = []) (hlist : s.seqList = id :: ids)
      (hfind : s.findSeq id = some a) :
      Leaves i s { s with
        regs := regs, rtn := rtn, nbf := nbf, cbf := cbf
        seqList := ids, pc := a, delayTime := s.nowTicks, mode := .running }
  /-- The next sequence of the list is not found (R169). -/
  | lost {regs : List Word} {rtn nbf cbf : Word} {id : SeqId} {ids : List SeqId}
      (hregs : RegsWithin s (writtenRegs s i) regs) (hstack : s.callStack = []) (hlist : s.seqList = id :: ids)
      (hfind : s.findSeq id = none) (hends : Ends i) :
      Leaves i s { s with
        regs := regs, rtn := rtn, nbf := nbf, cbf := cbf, seqList := ids, mode := .faulted (.seqNotFound id) }
  /-- Nothing is left to run (R99, R102, R103). -/
  | wentIdle {regs : List Word} {rtn nbf cbf : Word} {stack : List Frame} {list : List SeqId} {pending : Option Command}
      (hregs : RegsWithin s (writtenRegs s i) regs) (hstack : stack = []) (hlist : list = []) :
      Leaves i s { s with
        regs := regs, rtn := rtn, nbf := nbf, cbf := cbf
        callStack := stack, seqList := list, pending := pending, mode := .idle }

/-- A normal end from a state in which at most the registers and the cells of the built-ins were written. -/
theorem Leaves.endNormal {i : Instr} {s : State} {regs : List Word} {rtn nbf cbf : Word}
    (hregs : RegsWithin s (writtenRegs s i) regs) (hends : Ends i) :
    Leaves i s ({ s with regs := regs, rtn := rtn, nbf := nbf, cbf := cbf } : State).endNormal := by
  have hfind : ∀ id, ({ s with regs := regs, rtn := rtn, nbf := nbf, cbf := cbf } : State).findSeq id = s.findSeq id :=
    State.findSeq_congr s { s with regs := regs, rtn := rtn, nbf := nbf, cbf := cbf } rfl rfl
  refine State.endNormal_elim (Leaves i s) _ (fun f fs hs => .returned hregs hs) (fun hs hl => .wentIdle hregs hs hl)
    (fun id ids a hs hl ha => .nextOfList hregs hs hl ((hfind id).symm.trans ha))
    (fun id ids hs hl ha => .lost hregs hs hl ((hfind id).symm.trans ha) hends)

/-- EXIT writes `$RTN`, to a register it is mapped onto or to a cell, and ends normally. -/
theorem Leaves.exit {i : Instr} {s : State} (hw : writtenRegs s i = mappedReg s .rtn) (hends : Ends i) (v : Word) :
    Leaves i s (s.setBuiltin .rtn v).endNormal := by
  refine State.setBuiltin_elim (fun t => Leaves i s t.endNormal) s .rtn v (fun n hn => ?_) ?_ ?_ ?_
  · have hmem : n ∈ writtenRegs s i := by rw [hw, mappedReg, hn]; exact List.mem_singleton_self n
    exact .endNormal ((regsWithin_self s _).set hmem v) hends
  all_goals exact .endNormal (regsWithin_self s _) hends

theorem regsWithin_of_lockbuf {s : State} {regs : List Word} (hlen : regs.length = s.regs.length)
    (hreg : ∀ n, builtinReg s.cfg.builtinReg .nbf ≠ some n → builtinReg s.cfg.builtinReg .cbf ≠ some n →
      regs.getD n 0 = s.regs.getD n 0) : RegsWithin s (writtenRegs s .lockbuf) regs := by
  refine ⟨hlen, fun n hn => hreg n (fun h => hn ?_) (fun h => hn ?_)⟩
  · exact List.mem_append_left _ (by rw [mappedReg, h]; exact List.mem_singleton_self n)
  · exact List.mem_append_right _ (by rw [mappedReg, h]; exact List.mem_singleton_self n)

/-- Every instruction leaves one of the cases. -/
theorem exec_leaves (i : Instr) (s : State) : ∃ t, exec i s = .next t ∧ Leaves i s t := by
  have hone : ∀ (d : Nat) (v : Word), RegsWithin s [d] (s.regs.set d v) := fun d v =>
    (regsWithin_self s _).set List.mem_cons_self v
  have htwo : ∀ (d e : Nat) (v w : Word), RegsWithin s [d, e] ((s.regs.set d v).set e w) := fun d e v w =>
    ((regsWithin_self s _).set List.mem_cons_self v).set (List.mem_cons_of_mem _ List.mem_cons_self) w
  cases i with
  | addRRR | addRRI | addRIR | addRII =>
    exact ⟨_, rfl, addOp_elim (Leaves _ s) _ _ _ s .raised fun v => .wentOn (hone _ v) (.inl rfl)⟩
  | subRRR | subRRI | subRIR | subRII =>
    exact ⟨_, rfl, subOp_elim (Leaves _ s) _ _ _ s .raised fun v => .wentOn (hone _ v) (.inl rfl)⟩
  | mulRRR | mulRRI | mulRIR | mulRII =>
    exact ⟨_, rfl, mulOp_elim (Leaves _ s) _ _ _ s .raised .refused fun v w => .wentOn (htwo _ _ v w) (.inl rfl)⟩
  | divRRR | divRRI | divRIR | divRII =>
    exact ⟨_, rfl, divOp_elim (Leaves _ s) _ _ _ s .raised fun v => .wentOn (hone _ v) (.inl rfl)⟩
  | incR => exact ⟨_, rfl, incOp_elim (Leaves _ s) _ s .raised fun v => .wentOn (hone _ v) (.inl rfl)⟩
  | decR => exact ⟨_, rfl, decOp_elim (Leaves _ s) _ s .raised fun v => .wentOn (hone _ v) (.inl rfl)⟩
  | beqRRR | beqRRI | beqARR | beqARI | bneRRR | bneRRI | bneARR | bneARI | bltRRR | bltRRI | bltARR | bltARI
  | bleRRR | bleRRI | bleARR | bleARI | bgtRRR | bgtRRI | bgtARR | bgtARI | bgeRRR | bgeRRI | bgeARR | bgeARI
  | bnzRR | bnzAR | bzRR | bzAR | ubrR | ubrA =>
    exact ⟨_, rfl, branchOp_elim (Leaves _ s) _ _ _ s .raised (fun hin _ => .wentOn (regsWithin_self s _) (.inr hin.le))
      fun _ => .wentOn (regsWithin_self s _) (.inl rfl)⟩
  | cllRR | cllRI | cllIR | cllII => exact ⟨_, rfl, cllOp_elim (Leaves _ s) _ _ s .raised fun _ _ hd hf => .called hd hf⟩
  | sidRRI | sidRII | sidIRI | sidIII =>
    exact ⟨_, rfl, sidOp_elim (Leaves _ s) _ _ _ s .raised fun _ =>
      .wentOn (regsWithin_self s _) (.inl rfl) (htrace := ⟨_, rfl⟩)⟩
  | vidIII => exact ⟨_, rfl, vidOp_elim (Leaves _ s) _ _ _ s .raised (.wentOn (regsWithin_self s _) (.inl rfl))⟩
  | ret => exact ⟨_, rfl, .endNormal (regsWithin_self s _) (.inl rfl)⟩
  | exitR => exact ⟨_, rfl, exitOp_elim (Leaves _ s) _ s .raised (.exit rfl (.inr (.inl ⟨_, rfl⟩)) _)⟩
  | exitI => exact ⟨_, rfl, exitOp_elim (Leaves _ s) _ s .raised (.exit rfl (.inr (.inr ⟨_, rfl⟩)) _)⟩
  | term | abort => exact ⟨_, rfl, .wentIdle (regsWithin_self s _) rfl rfl⟩
  | waitR | waitI =>
    exact ⟨_, rfl, waitOp_elim (Leaves _ s) _ s .raised fun _ hk => .wentOn (regsWithin_self s _) (.inl rfl) (.inr (.ticks hk))⟩
  | delayR | delayI =>
    exact ⟨_, rfl, delayOp_elim (Leaves _ s) _ s .raised (fun _ => .wentOn (regsWithin_self s _) (.inl rfl))
      fun _ ht => .wentOn (regsWithin_self s _) (.inl rfl) (.inr (.delay ht))⟩
  | srt => exact ⟨_, rfl, .wentOn (regsWithin_self s _) (.inl rfl) (href := .inr ⟨rfl, rfl⟩)⟩
  | timR | timI =>
    exact ⟨_, rfl, timOp_elim (Leaves _ s) _ s .raised (.wentOn (regsWithin_self s _) (.inl rfl))
      fun _ ht => .wentOn (regsWithin_self s _) (.inl rfl) (.inr (.time ht))⟩
  | noop => exact ⟨_, rfl, .wentOn (regsWithin_self s _) (.inl rfl)⟩
  | setRR | setRI => exact ⟨_, rfl, setOp_elim (Leaves _ s) _ _ s .raised fun v => .wentOn (hone _ v) (.inl rfl)⟩
  | setregsRR | setregsRI | setregsIR | setregsII =>
    exact ⟨_, rfl, setregsOp_elim (Leaves _ s) _ _ s .raised fun hrun hend => .wentOn (regsWithin_loadRun hrun) (.inr hend)⟩
  | ldaRR | ldaRI => exact ⟨_, rfl, ldaOp_elim (Leaves _ s) _ _ s .raised fun v => .wentOn (hone _ v) (.inl rfl)⟩
  | ldrRR => exact ⟨_, rfl, ldrOp_elim (Leaves _ s) _ _ s .raised .refused fun v w => .wentOn (htwo _ _ v w) (.inl rfl)⟩
  | frameR | frameI =>
    exact ⟨_, rfl, frameOp_elim (Leaves _ s) _ s .raised fun _ =>
      .wentOn (regsWithin_self s _) (.inl rfl) (.inr .frame) (htrace := ⟨_, rfl⟩)⟩
  | frmpfRRR | frmpfRRI | frmpfRIR | frmpfRII | frmpfIRR | frmpfIRI | frmpfIIR | frmpfIII =>
    exact ⟨_, rfl, frmpfOp_elim (Leaves _ s) _ _ _ s .raised fun _ =>
      .wentOn (regsWithin_self s _) (.inl rfl) (.inr .frame) (htrace := ⟨_, rfl⟩)⟩
  | sampRR | sampRI | sampIR | sampII =>
    exact ⟨_, rfl, sampOp_elim (Leaves _ s) _ _ s .raised fun _ _ _ =>
      .wentOn (regsWithin_self s _) (.inl rfl) (htrace := ⟨_, rfl⟩)⟩
  | sttgRR | sttgRI | sttgIR | sttgII =>
    exact ⟨_, rfl, sttgOp_elim (Leaves _ s) _ _ s .raised fun _ _ =>
      .wentOn (regsWithin_self s _) (.inl rfl) (.inr .slew) (htrace := ⟨_, rfl⟩)⟩
  | lockbuf =>
    exact ⟨_, rfl, lockbufOp_elim (Leaves _ s) s (.wentOn (regsWithin_self s _) (.inl rfl)) fun _ _ _ _ hlen hreg =>
      .wentOn (regsWithin_of_lockbuf hlen hreg) (.inl rfl) (htrace := ⟨_, rfl⟩)⟩
  | resetaec | startave | updimax =>
    exact ⟨_, rfl, .wentOn (regsWithin_self s _) (.inl rfl) (htrace := ⟨_, rfl⟩)⟩

theorem leaves_of_exec {i : Instr} {s t : State} (h : exec i s = .next t) : Leaves i s t := by
  obtain ⟨t', ht', hleaves⟩ := exec_leaves i s
  rw [ht'] at h
  cases h
  exact hleaves

end Sys2Proof.Machine

/-! PROOFS. What an event can do, said once (the cases of `EventLeaves`), and what holds of every step by the cases of
instructions and events (spec/10_state.md R13 to R26; spec/60_exceptions.md R160, R174 to R177). -/

namespace Sys2Proof.Machine

open Sys2Proof.Claims

/-! ### The cases of the events -/

/-- The states an event can leave. -/
inductive EventLeaves (s : State) : Action → State → Prop
  | started {c : Command} {a : Nat} (hpending : s.pending = some c) (hmode : MayStart s.mode)
      (hfind : s.findSeq c.first = some a) : EventLeaves s .startPending (started s c a)
  | startFailed {c : Command} (hpending : s.pending = some c) (hmode : MayStart s.mode)
      (hfind : s.findSeq c.first = none) : EventLeaves s .startPending (startFailed s c)
  | tickEndsWait (hmode : s.mode = .waitTicks 1) :
      EventLeaves s .tick { s with nowTicks := s.nowTicks + 1, mode := .running }
  | tickCountsDown {k : Nat} (hk : 1 < k) (hmode : s.mode = .waitTicks k) :
      EventLeaves s .tick { s with nowTicks := s.nowTicks + 1, mode := .waitTicks (k - 1) }
  | tickEndsDelay {t : Nat} (ht : t ≤ s.nowTicks + 1) (hmode : s.mode = .waitDelay t) :
      EventLeaves s .tick { s with nowTicks := s.nowTicks + 1, delayTime := s.nowTicks + 1, mode := .running }
  | tickCounts (hwait : ∀ k, 0 < k → s.mode ≠ .waitTicks k) (hdelay : ∀ t, s.mode = .waitDelay t → s.nowTicks + 1 < t) :
      EventLeaves s .tick { s with nowTicks := s.nowTicks + 1 }
  | lobtEndsTim {v t : Nat} (hv : s.lobt ≤ v) (ht : t ≤ v) (hmode : s.mode = .waitTime t) :
      EventLeaves s (.lobt v) { s with lobt := v, mode := .running }
  | lobtSet {v : Nat} (hv : s.lobt ≤ v) (hmode : ∀ t, s.mode = .waitTime t → v < t) :
      EventLeaves s (.lobt v) { s with lobt := v }
  | frameDone {r : FrameResult} (hmode : s.mode = .waitFrame) :
      EventLeaves s (.frameDone r) { s with mode := .running }
  | slewDone (hmode : s.mode = .waitSlew) : EventLeaves s .slewDone { s with mode := .running }
  | newSequence {c : Command} : EventLeaves s (.newSequence c) { s with pending := some c }
  | envWrite {w : EnvWrite} {regs : List Word} {rtn nbf cbf camAmp : Word} {aecCur : Vector Nat 128} {startAve : Bool}
      {imaxRow imaxCol : Nat} {flare : Flare} {wedgeRequest : WedgePositions}
      (hregs : regs.length = s.regs.length := by rfl) :
      EventLeaves s (.envWrite w) { s with
        regs := regs, rtn := rtn, nbf := nbf, cbf := cbf, camAmp := camAmp, aecCur := aecCur, startAve := startAve
        imaxRow := imaxRow, imaxCol := imaxCol, flare := flare, wedgeRequest := wedgeRequest }

theorem State.tick_leaves (s : State) : EventLeaves s .tick s.tick := by
  by_cases hone : s.mode = .waitTicks 1
  · rw [State.tick_waitTicks_one hone]
    exact .tickEndsWait hone
  by_cases hmore : ∃ k, 1 < k ∧ s.mode = .waitTicks k
  · obtain ⟨k, hk, hmode⟩ := hmore
    rw [State.tick_waitTicks_of_lt hk hmode]
    exact .tickCountsDown hk hmode
  by_cases hend : ∃ t, s.mode = .waitDelay t ∧ t ≤ s.nowTicks + 1
  · obtain ⟨t, hmode, ht⟩ := hend
    rw [State.tick_waitDelay_of_le hmode ht]
    exact .tickEndsDelay ht hmode
  have hwait : ∀ k, 0 < k → s.mode ≠ .waitTicks k := fun k hk hmode =>
    (Nat.eq_or_lt_of_le hk).elim (fun h => hone (by rw [hmode, ← h])) fun h => hmore ⟨k, h, hmode⟩
  have hdelay : ∀ t, s.mode = .waitDelay t → s.nowTicks + 1 < t := fun t hmode =>
    Nat.not_le.mp fun ht => hend ⟨t, hmode, ht⟩
  rw [State.tick_of_other hwait hdelay]
  exact .tickCounts hwait hdelay

theorem State.setLobt_leaves {s : State} {v : Nat} (hv : s.lobt ≤ v) : EventLeaves s (.lobt v) (s.setLobt v) := by
  by_cases hend : ∃ t, s.mode = .waitTime t ∧ t ≤ v
  · obtain ⟨t, hmode, ht⟩ := hend
    rw [State.setLobt_of_le hmode ht]
    exact .lobtEndsTim hv ht hmode
  · have hmode : ∀ t, s.mode = .waitTime t → v < t := fun t hmode => Nat.not_le.mp fun ht => hend ⟨t, hmode, ht⟩
    rw [State.setLobt_of_other hmode]
    exact .lobtSet hv hmode

theorem State.envWrite_leaves (s : State) (w : EnvWrite) : EventLeaves s (.envWrite w) (s.envWrite w) := by
  cases w with
  | nbf v => exact State.setBuiltin_elim _ s .nbf v (fun _ _ => .envWrite List.length_set) .envWrite .envWrite .envWrite
  | cbf v => exact State.setBuiltin_elim _ s .cbf v (fun _ _ => .envWrite List.length_set) .envWrite .envWrite .envWrite
  | _ => exact .envWrite

/-- Every event that is enabled leaves one of the cases. -/
theorem State.event_leaves {s t : State} {a : Action} (h : s.event a = some t) : EventLeaves s a t := by
  cases a with
  | exec => cases h
  | startPending =>
    obtain ⟨hmode, c, hpending, rfl⟩ : s.mode.admitsStart = true ∧ ∃ c, s.pending = some c ∧ s.startCommand c = t := by
      simpa [State.event] using h
    have hmode := s.mode.admitsStart_iff.mp hmode
    cases hfind : s.findSeq c.first with
    | none => exact State.startCommand_missing hfind ▸ .startFailed hpending hmode hfind
    | some a => exact State.startCommand_found hfind ▸ .started hpending hmode hfind
  | tick =>
    cases h
    exact s.tick_leaves
  | lobt v =>
    obtain ⟨hv, rfl⟩ : s.lobt ≤ v ∧ s.setLobt v = t := by simpa [State.event] using h
    exact State.setLobt_leaves hv
  | frameDone r =>
    obtain ⟨hmode, rfl⟩ : s.mode = .waitFrame ∧ { s with mode := .running } = t := by simpa [State.event] using h
    exact .frameDone hmode
  | slewDone =>
    obtain ⟨hmode, rfl⟩ : s.mode = .waitSlew ∧ { s with mode := .running } = t := by simpa [State.event] using h
    exact .slewDone hmode
  | newSequence c =>
    cases h
    exact .newSequence
  | envWrite w =>
    cases h
    exact s.envWrite_leaves w

/-- Every step is an instruction of a running machine, its failed fetch, or an event: the one scheduled, or the start of a
pending command. -/
theorem step_leaves {s t : State} (h : step s = .next t) :
    (s.mode = .running ∧ ((∃ i, s.fetch = .ok i ∧ Leaves i s.popped t) ∨ ∃ e, t = s.popped.fetchFailed e)) ∨
      ∃ a, a ≠ .exec ∧ EventLeaves s.popped a t ∧
        ((∃ l, s.schedule = a :: l) ∨ (s.schedule = [] ∧ a = .startPending ∧ s.mode ≠ .running)) := by
  obtain ⟨hmode, hexec, -⟩ | ⟨a, ha, hevent, hwhy⟩ := step_cases s t h
  · refine .inl ⟨hmode, ?_⟩
    obtain ⟨i, hfetch, hi⟩ | ⟨e, -, ht⟩ := execStep_cases _ _ hexec
    · exact .inl ⟨i, hfetch, leaves_of_exec hi⟩
    · exact .inr ⟨e, ht⟩
  · exact .inr ⟨a, ha, State.event_leaves hevent, hwhy⟩

/-! ### What is fixed for a run, the clocks and the trace -/

theorem Leaves.sameFixed {i : Instr} {s t : State} (h : Leaves i s t) : SameFixed s t := by
  cases h with
  | raised | refused | called => exact ⟨rfl, rfl, rfl, rfl, rfl⟩
  | wentOn hregs | returned hregs | nextOfList hregs | lost hregs | wentIdle hregs =>
    exact ⟨rfl, rfl, rfl, hregs.1, rfl⟩

theorem EventLeaves.sameFixed {s t : State} {a : Action} (h : EventLeaves s a t) : SameFixed s t := by
  cases h with
  | envWrite hregs => exact ⟨rfl, rfl, rfl, hregs, rfl⟩
  | _ => exact ⟨rfl, rfl, rfl, rfl, rfl⟩

theorem State.fetchFailed_sameFixed (s : State) (e : Rejection) : SameFixed s (s.fetchFailed e) := by
  rw [State.fetchFailed_eq]
  exact ⟨rfl, rfl, rfl, rfl, rfl⟩

theorem SameFixed.of_popped {s t : State} (h : SameFixed s.popped t) : SameFixed s t :=
  ⟨h.cfg, h.tables, h.mem, h.nregs, h.aecDef⟩

/-- Settles O45: no case of an instruction and no event writes any of the fixed parts. -/
theorem stepKeepsFixedParts : Obligations.StepKeepsFixedParts := by
  intro s t h
  obtain ⟨-, ⟨i, -, hi⟩ | ⟨e, rfl⟩⟩ | ⟨a, -, ha, -⟩ := step_leaves h
  · exact hi.sameFixed.of_popped
  · exact (s.popped.fetchFailed_sameFixed e).of_popped
  · exact ha.sameFixed.of_popped

/-- The clocks have not moved, and what was emitted comes after the trace. -/
structure EmitsOnly (s t : State) : Prop where
  lobt : t.lobt = s.lobt
  nowTicks : t.nowTicks = s.nowTicks
  trace : ∃ es, t.trace = s.trace ++ es

theorem Leaves.emitsOnly {i : Instr} {s t : State} (h : Leaves i s t) : EmitsOnly s t := by
  cases h with
  | wentOn _ _ _ htrace => exact ⟨rfl, rfl, htrace⟩
  | _ => exact ⟨rfl, rfl, [], (List.append_nil _).symm⟩

/-- Settles O56: an instruction only emits; the tick moves its counter, and LOBT is set to a time that is not earlier. -/
theorem clocksAndTraceOnlyAdvance : Obligations.ClocksAndTraceOnlyAdvance := by
  intro s t h
  have hnil : ∃ es, s.trace = s.trace ++ es := ⟨[], (List.append_nil _).symm⟩
  obtain ⟨-, ⟨i, -, hi⟩ | ⟨e, rfl⟩⟩ | ⟨a, -, ha, hwhy⟩ := step_leaves h
  · obtain ⟨hlobt, hnow, htrace⟩ := hi.emitsOnly
    exact ⟨hlobt.ge, .inl hnow, htrace⟩
  · rw [State.fetchFailed_eq]
    exact ⟨le_rfl, .inl rfl, hnil⟩
  · cases ha with
    | tickEndsWait | tickCountsDown | tickEndsDelay | tickCounts =>
      exact ⟨le_rfl, .inr ⟨rfl, hwhy.resolve_right (by simp)⟩, hnil⟩
    | lobtEndsTim hv | lobtSet hv => exact ⟨hv, .inl rfl, hnil⟩
    | _ => exact ⟨le_rfl, .inl rfl, hnil⟩

/-! ### Registers and memory -/

theorem Leaves.reg_eq {i : Instr} {s t : State} (h : Leaves i s t) (n : Nat) (hn : n ∉ writtenRegs s i) :
    t.reg n = s.reg n := by
  cases h with
  | raised | refused | called => rfl
  | wentOn hregs | returned hregs | nextOfList hregs | lost hregs | wentIdle hregs => exact hregs.2 n hn

/-- Settles O46: each case of an instruction writes within its destinations and leaves sequence space as it is. -/
theorem instructionRegisterFrame : Obligations.InstructionRegisterFrame := fun _ _ _ h =>
  ⟨(leaves_of_exec h).reg_eq, fun a => congrArg (Memory.read · a) (leaves_of_exec h).sameFixed.mem⟩

/-! ### Faults and refusals -/

theorem Parks.not_stopped {s : State} {m : Mode} (h : Parks s m) : m.stopped = false := by
  cases h <;> rfl

/-- Settles O50: of the cases that end stopped, a fault and a refusal write the mode only, and the third is the lost next
sequence. -/
theorem faultingInstructionChangesNothingElse : Obligations.FaultingInstructionChangesNothingElse := by
  intro i s t hrunning h hstopped
  have hrun : s.mode.stopped = false := by rw [hrunning]; rfl
  cases leaves_of_exec h with
  | raised | refused => exact .inl rfl
  | wentOn _ _ hmode =>
    obtain hmode | hmode := hmode
    · exact absurd (hmode ▸ hstopped) (by simp [hrun])
    · exact absurd hstopped (by simp [hmode.not_stopped])
  | called => exact absurd hstopped (by simp [hrun])
  | returned | nextOfList | wentIdle => cases hstopped
  | lost _ hstack hlist hfind hends => exact .inr ⟨_, _, hstack, hlist, hfind, rfl, rfl, rfl, hends⟩

theorem not_mayStart_of_stopped {m : Mode} (h : m.stopped = true) : ¬MayStart m := by
  cases m <;> simp_all [Mode.stopped, MayStart]

/-- Settles O49: a stopped machine does not run, so the step is an event, and those that change a mode ask for another. -/
theorem stoppedModeIsNeverLeft : Obligations.StoppedModeIsNeverLeft := by
  intro s t hstopped h
  obtain ⟨hrunning, -⟩ | ⟨a, hexec, ha, hwhy⟩ := step_leaves h
  · rw [hrunning] at hstopped
    cases hstopped
  have hno : ¬MayStart s.mode := not_mayStart_of_stopped hstopped
  have hne : a ≠ .startPending := by
    rintro rfl
    cases ha with
    | started _ hmode | startFailed _ hmode => exact hno hmode
  obtain ⟨l, hs⟩ := hwhy.resolve_right fun ⟨_, hc, _⟩ => hne hc
  suffices hsame : t.mode = s.mode ∧ t.pc = s.pc ∧ t.callStack = s.callStack by
    obtain ⟨hmode, hpc, hstack⟩ := hsame
    exact ⟨hmode, hpc, hstack, a, l, hs, hexec, hne⟩
  cases ha with
  | started _ hmode | startFailed _ hmode => exact absurd hmode hno
  | tickEndsWait hmode | tickCountsDown _ hmode | tickEndsDelay _ hmode | lobtEndsTim _ _ hmode | frameDone hmode
  | slewDone hmode =>
    rw [show s.mode = _ from hmode] at hstopped
    cases hstopped
  | tickCounts | lobtSet | newSequence | envWrite => exact ⟨rfl, rfl, rfl⟩

/-! ### Waits -/

theorem not_running_of_waiting {m : Mode} (h : Waiting m) : m ≠ .running := by
  rintro rfl
  exact h

/-- A step of a machine that does not run is a scheduled event, or the start of a pending command. -/
theorem step_of_not_running {s t : State} (hmode : s.mode ≠ .running) (h : step s = .next t) :
    StartIsNext s ∨ ∃ a l, s.schedule = a :: l ∧ a ≠ .startPending ∧ EventLeaves s.popped a t := by
  obtain ⟨hrunning, -⟩ | ⟨a, -, ha, hwhy⟩ := step_leaves h
  · exact absurd hrunning hmode
  by_cases hstart : a = .startPending
  · subst hstart
    refine .inl ?_
    have hsched : s.schedule = [] ∨ ∃ l, s.schedule = .startPending :: l := hwhy.symm.imp_left And.left
    cases ha with
    | started hpending hmay | startFailed hpending hmay =>
      exact ⟨fun hnone => by simp [State.popped, hnone] at hpending, hmay, hsched⟩
  · obtain ⟨l, hs⟩ := hwhy.resolve_right fun ⟨_, hc, _⟩ => hstart hc
    exact .inr ⟨a, l, hs, hstart, ha⟩

@[simp] theorem State.popped_nowTicks (s : State) : s.popped.nowTicks = s.nowTicks := rfl

/-- An event that changes a mode is the one its wait is for. -/
theorem EventLeaves.mode_cases {s t : State} {a : Action} (h : EventLeaves s a t) (ha : a ≠ .startPending)
    (hmode : t.mode ≠ s.mode) :
    (a = .tick ∧ ∃ k, s.mode = .waitTicks k ∧ t.mode = if k = 1 then .running else .waitTicks (k - 1)) ∨
    (a = .tick ∧ ∃ d, s.mode = .waitDelay d ∧ d ≤ s.nowTicks + 1 ∧ t.mode = .running) ∨
    (∃ v d, a = .lobt v ∧ s.mode = .waitTime d ∧ d ≤ v ∧ t.mode = .running) ∨
    (∃ r, a = .frameDone r ∧ s.mode = .waitFrame ∧ t.mode = .running) ∨
    (a = .slewDone ∧ s.mode = .waitSlew ∧ t.mode = .running) := by
  cases h with
  | started | startFailed => exact absurd rfl ha
  | tickEndsWait h => exact .inl ⟨rfl, 1, h, rfl⟩
  | tickCountsDown hk h => exact .inl ⟨rfl, _, h, (if_neg (by omega)).symm⟩
  | tickEndsDelay ht h => exact .inr (.inl ⟨rfl, _, h, ht, rfl⟩)
  | lobtEndsTim _ ht h => exact .inr (.inr (.inl ⟨_, _, rfl, h, ht, rfl⟩))
  | frameDone h => exact .inr (.inr (.inr (.inl ⟨_, rfl, h, rfl⟩)))
  | slewDone h => exact .inr (.inr (.inr (.inr ⟨rfl, h, rfl⟩)))
  | tickCounts | lobtSet | newSequence | envWrite => exact absurd rfl hmode

/-- An event that is no start leaves the sequence where it is. -/
theorem EventLeaves.keeps_sequence {s t : State} {a : Action} (h : EventLeaves s a t) (ha : a ≠ .startPending) :
    t.pc = s.pc ∧ t.callStack = s.callStack ∧ t.seqList = s.seqList ∧ t.refTime = s.refTime ∧ t.trace = s.trace := by
  cases h with
  | started | startFailed => exact absurd rfl ha
  | _ => exact ⟨rfl, rfl, rfl, rfl, rfl⟩

/-- Settles O51: a step that changes a waiting mode is the start or the wait's own event, and no event moves the
sequence. -/
theorem deferringWaitsLeftByOwnEvent : Obligations.DeferringWaitsLeftByOwnEvent := by
  refine ⟨fun s t h hne => ?_, fun s t h hwait hstart => ?_, fun s l hmode hs => ?_⟩
  · by_cases hrun : s.mode = .running
    · simp [hrun]
    obtain hstart | ⟨a, l, hs, ha, hleaves⟩ := step_of_not_running hrun h
    · refine ⟨fun _ _ => .inl hstart, fun _ _ => .inl hstart, fun _ _ => .inl hstart, fun hm => ?_, fun hm => ?_⟩
      all_goals exact absurd hstart.2.1 (by simp [hm, MayStart])
    · obtain ⟨rfl, k, hm, ht⟩ | ⟨rfl, d, hm, hd, ht⟩ | ⟨v, d, rfl, hm, hd, ht⟩ | ⟨r, rfl, hm, ht⟩ | ⟨rfl, hm, ht⟩ :=
        hleaves.mode_cases ha hne
      all_goals simp_all
  · obtain hstart' | ⟨a, l, -, ha, hleaves⟩ := step_of_not_running (not_running_of_waiting hwait) h
    · exact absurd hstart' hstart
    · exact hleaves.keeps_sequence ha
  · rw [step_scheduled s _ l hs, act]
    exact if_neg hmode

end Sys2Proof.Machine

/-! PROOFS. Every step keeps the invariant of the machine (spec/10_state.md R13, R18, R20): the fetch bounds the address of
the next instruction, and each case of an instruction or an event keeps the rest. -/

namespace Sys2Proof.Machine

open Sys2Proof.Claims

/-! ### A fetched instruction lies in sequence space -/

theorem operandBytes_eq_length (o : ByteOrder) (ops : List Opnd) :
    operandBytes ops = (ops.flatMap (Opnd.bytes o)).length := by
  induction ops with
  | nil => rfl
  | cons k ops ih =>
    have hk : k.size = (k.bytes o).length := by cases k <;> rfl
    rw [operandBytes, List.map_cons, List.sum_cons, List.flatMap_cons, List.length_append, ← ih, hk, operandBytes]

theorem Memory.bytes_length (m : Memory) (a n : Nat) : (m.bytes a n).length = n := by
  induction n generalizing a with
  | zero => rfl
  | succ n ih => rw [Memory.bytes, List.length_cons, ih]

theorem npc_le_of_fetch {s : State} {i : Instr} (h : s.fetch = .ok i) : s.npc i.operands ≤ s.cfg.seqSize := by
  obtain ⟨rest, hdecode⟩ := State.fetch_ok_iff.mp h
  obtain ⟨-, op, -, hbytes⟩ := bytes_of_decode hdecode
  have hlen : min 7 (s.cfg.seqSize - s.pc) = operandBytes i.operands + rest.length + 1 := by
    rw [operandBytes_eq_length s.cfg.byteOrder, ← List.length_append, ← List.length_cons (a := op), ← List.cons_append,
      ← hbytes, fetchWindow, Memory.bytes_length]
  rw [State.npc]
  omega

/-! ### The cases keep the invariant -/

/-- The promise of a mode rests on the callers, the list and the clocks. -/
theorem Mode.invariant_congr {s t : State} (m : Mode) (hstack : t.callStack = s.callStack) (hlist : t.seqList = s.seqList)
    (hnow : t.nowTicks = s.nowTicks) (hlobt : t.lobt = s.lobt) (h : m.invariant s) : m.invariant t := by
  cases m <;> simp_all [Mode.invariant]

/-- What a step has to keep beyond the fixed parts. -/
theorem State.Inv.of_sameFixed {s t : State} (hs : s.Inv) (h : SameFixed s t) (hpc : t.pc ≤ s.cfg.seqSize)
    (hdepth : t.callStack.length ≤ s.cfg.callDepth) (hret : ∀ f ∈ t.callStack, f.ret ≤ s.cfg.seqSize)
    (hmode : t.mode.invariant t) : t.Inv where
  cfg := h.cfg ▸ hs.cfg
  nregs := h.nregs ▸ hs.nregs
  builtin b n hn := h.nregs ▸ hs.builtin b n (h.cfg ▸ hn)
  mem := h.mem ▸ hs.mem
  pc := h.cfg ▸ hpc
  depth := h.cfg ▸ hdepth
  ret := h.cfg ▸ hret
  mode := hmode

theorem State.Inv.popped {s : State} (hs : s.Inv) : s.popped.Inv :=
  hs.of_sameFixed ⟨rfl, rfl, rfl, rfl, rfl⟩ hs.pc hs.depth hs.ret (s.mode.invariant_congr rfl rfl rfl rfl hs.mode)

theorem findSeq_le {s : State} {id : SeqId} {a : Nat} (h : s.findSeq id = some a) : a ≤ s.cfg.seqSize := by
  obtain ⟨hend, -⟩ := s.findSeq_some id a h
  omega

theorem Parks.invariant {s t : State} {m : Mode} (h : Parks s m) (hnow : t.nowTicks = s.nowTicks)
    (hlobt : t.lobt = s.lobt) : m.invariant t := by
  cases h <;> simp_all [Mode.invariant]

/-- An instruction fetched by a running machine keeps the invariant. -/
theorem Leaves.inv {i : Instr} {s t : State} (h : Leaves i s t) (hs : s.Inv) (hrunning : s.mode = .running)
    (hnpc : s.npc i.operands ≤ s.cfg.seqSize) : t.Inv := by
  have hfixed := h.sameFixed
  cases h with
  | raised | refused => exact hs.of_sameFixed hfixed hs.pc hs.depth hs.ret trivial
  | wentOn _ hpc hmode =>
    refine hs.of_sameFixed hfixed (hpc.elim (fun h => h.trans_le hnpc) id) hs.depth hs.ret ?_
    obtain rfl | hparks := hmode
    · exact Mode.invariant_congr _ rfl rfl rfl rfl hs.mode
    · exact hparks.invariant rfl rfl
  | called hdepth hfind =>
    refine hs.of_sameFixed hfixed (findSeq_le hfind) (Nat.lt_of_le_of_ne hs.depth hdepth) ?_ ?_
    · exact List.forall_mem_cons.mpr ⟨hnpc, hs.ret⟩
    · simp only [hrunning]
      trivial
  | returned _ hstack =>
    have hdepth := hs.depth
    have hret := hs.ret
    rw [hstack] at hdepth hret
    obtain ⟨hf, hfs⟩ := List.forall_mem_cons.mp hret
    exact hs.of_sameFixed hfixed hf (Nat.le_of_succ_le hdepth) hfs trivial
  | nextOfList _ _ _ hfind => exact hs.of_sameFixed hfixed (findSeq_le hfind) hs.depth hs.ret trivial
  | lost => exact hs.of_sameFixed hfixed hs.pc hs.depth hs.ret trivial
  | wentIdle _ hstack hlist =>
    subst hstack hlist
    exact hs.of_sameFixed hfixed hs.pc (Nat.zero_le _) nofun ⟨rfl, rfl⟩

/-- An event keeps the invariant: a wait it does not end is not over. -/
theorem EventLeaves.inv {s t : State} {a : Action} (h : EventLeaves s a t) (hs : s.Inv) : t.Inv := by
  have hfixed := h.sameFixed
  have hmode := hs.mode
  cases h with
  | started _ _ hfind => exact hs.of_sameFixed hfixed (findSeq_le hfind) (Nat.zero_le _) nofun trivial
  | startFailed => exact hs.of_sameFixed hfixed hs.pc (Nat.zero_le _) nofun trivial
  | tickEndsWait | tickEndsDelay | lobtEndsTim | frameDone | slewDone =>
    exact hs.of_sameFixed hfixed hs.pc hs.depth hs.ret trivial
  | tickCountsDown hk => exact hs.of_sameFixed hfixed hs.pc hs.depth hs.ret (Nat.le_sub_one_of_lt hk)
  | tickCounts _ hdelay =>
    refine hs.of_sameFixed hfixed hs.pc hs.depth hs.ret ?_
    cases hm : s.mode <;> simp_all [Mode.invariant]
  | lobtSet _ htime =>
    refine hs.of_sameFixed hfixed hs.pc hs.depth hs.ret ?_
    cases hm : s.mode <;> simp_all [Mode.invariant]
  | newSequence | envWrite =>
    exact hs.of_sameFixed hfixed hs.pc hs.depth hs.ret (Mode.invariant_congr _ rfl rfl rfl rfl hmode)

theorem State.Inv.fetchFailed {s : State} (hs : s.Inv) (e : Rejection) : (s.fetchFailed e).Inv := by
  have hfixed := s.fetchFailed_sameFixed e
  cases e <;> exact hs.of_sameFixed hfixed hs.pc hs.depth hs.ret trivial

/-- Settles O42: an instruction, a failed fetch and an event each keep the invariant. -/
theorem stepKeepsInvariant : Obligations.StepKeepsInvariant := by
  intro s t hs h
  obtain ⟨hrunning, ⟨i, hfetch, hi⟩ | ⟨e, rfl⟩⟩ | ⟨a, -, ha, -⟩ := step_leaves h
  · exact hi.inv hs.popped hrunning (npc_le_of_fetch hfetch)
  · exact hs.popped.fetchFailed e
  · exact ha.inv hs.popped

/-- Settles O43: reset's parameters are the defaults, no built-in is mapped, and nothing runs. -/
theorem resetHasInvariant : Obligations.ResetHasInvariant where
  cfg := rfl
  nregs := by rw [State.reset_nregs]; decide
  builtin b n h := by cases b <;> cases h
  mem := State.reset_mem_wf
  pc := Nat.zero_le _
  depth := Nat.zero_le _
  ret := nofun
  mode := ⟨rfl, rfl⟩

end Sys2Proof.Machine

/-! PROOFS. The reference time is written by SRT only and read by TIM only (spec/10_state.md R16): every other instruction
commutes with replacing it. -/

namespace Sys2Proof.Machine

open Sys2Proof.Claims

/-- The state with another reference time. -/
def State.withRefTime (s : State) (r : Nat) : State := { s with refTime := r }

/-- The outcome with another reference time in its next state. -/
abbrev nextWithRefTime (r : Nat) : Result → Result := mapNext fun t => t.withRefTime r

/-! ### The shared operations from a state with another reference time -/

section
variable (s : State) (r : Nat)

theorem State.withRefTime_ite {c : Prop} [Decidable c] {a a' b b' : State} (ha : a' = a.withRefTime r)
    (hb : b' = b.withRefTime r) : (if c then a' else b') = (if c then a else b).withRefTime r := by
  rw [ha, hb, apply_ite (fun t : State => t.withRefTime r)]

theorem State.withRefTime_withOperands (ops : List Opnd) {body body' : State} (hb : body' = body.withRefTime r) :
    (s.withRefTime r).withOperands ops body' = (s.withOperands ops body).withRefTime r := by
  cases hf : ops.findSome? s.badOperand with
  | none => rw [State.withOperands_ok s ops _ hf, State.withOperands_ok (s.withRefTime r) ops _ hf, hb]
  | some n =>
    rw [State.withOperands_bad s ops _ n hf, State.withOperands_bad (s.withRefTime r) ops _ n hf]
    rfl

theorem State.withRefTime_val (k : Opnd) : (s.withRefTime r).val k = s.val k := by
  cases k <;> rfl

theorem State.withRefTime_findSeq (q : SeqId) : (s.withRefTime r).findSeq q = s.findSeq q :=
  State.findSeq_congr s (s.withRefTime r) rfl rfl q

theorem State.withRefTime_loadRun (n d a : Nat) (regs : List Word) :
    (s.withRefTime r).loadRun n d a regs = s.loadRun n d a regs := by
  induction n generalizing d a regs with
  | zero => rfl
  | succ n ih => exact ih _ _ _

theorem State.withRefTime_setBuiltin (b : Builtin) (v : Word) :
    (s.withRefTime r).setBuiltin b v = (s.setBuiltin b v).withRefTime r := by
  cases hn : builtinReg s.cfg.builtinReg b with
  | none =>
    rw [State.setBuiltin_of_unmapped hn, State.setBuiltin_of_unmapped (s := s.withRefTime r) hn]
    cases b <;> rfl
  | some n =>
    rw [State.setBuiltin_of_mapped hn, State.setBuiltin_of_mapped (s := s.withRefTime r) hn]
    rfl

theorem State.withRefTime_endNormal : (s.withRefTime r).endNormal = s.endNormal.withRefTime r := by
  cases hs : s.callStack with
  | cons f fs =>
    rw [State.endNormal_return s f fs hs, State.endNormal_return (s.withRefTime r) f fs hs]
    rfl
  | nil =>
    cases hl : s.seqList with
    | nil =>
      rw [State.endNormal_idle s hs hl, State.endNormal_idle (s.withRefTime r) hs hl]
      rfl
    | cons q qs =>
      rw [State.endNormal_list s q qs hs hl, State.endNormal_list (s.withRefTime r) q qs hs hl]
      have hfind : ({ s.withRefTime r with seqList := qs } : State).findSeq q = ({ s with seqList := qs } : State).findSeq q :=
        State.withRefTime_findSeq { s with seqList := qs } r q
      cases hf : ({ s with seqList := qs } : State).findSeq q with
      | none =>
        rw [State.startSeq_missing _ q hf, State.startSeq_missing _ q (hfind.trans hf)]
        rfl
      | some a =>
        rw [State.startSeq_found _ q a hf, State.startSeq_found _ q a (hfind.trans hf)]
        rfl

end

/-! ### Every instruction but TIM -/

theorem branchOp_withRefTime (ops : List Opnd) (k : Opnd) (cond : Bool) (s : State) (r : Nat) :
    branchOp ops k cond (s.withRefTime r) = (branchOp ops k cond s).withRefTime r := by
  refine s.withRefTime_withOperands r _ ?_
  rw [State.withRefTime_val]
  exact State.withRefTime_ite r rfl (State.withRefTime_ite r (State.withRefTime_ite r rfl rfl) rfl)

theorem setregsOp_withRefTime (d n : Opnd) (s : State) (r : Nat) :
    setregsOp d n (s.withRefTime r) = (setregsOp d n s).withRefTime r := by
  refine s.withRefTime_withOperands r _ ?_
  rw [State.withRefTime_val, State.withRefTime_val]
  refine State.withRefTime_ite r rfl (State.withRefTime_ite r rfl ?_)
  rw [State.withRefTime_loadRun]
  rfl

theorem cllOp_withRefTime (lo hi : Opnd) (s : State) (r : Nat) :
    cllOp lo hi (s.withRefTime r) = (cllOp lo hi s).withRefTime r := by
  refine s.withRefTime_withOperands r _ (State.withRefTime_ite r rfl ?_)
  rw [State.withRefTime_val, State.withRefTime_val, State.withRefTime_findSeq]
  cases s.findSeq (seqId (s.val lo) (s.val hi)) <;> rfl

theorem sttgOp_withRefTime (lo hi : Opnd) (s : State) (r : Nat) :
    sttgOp lo hi (s.withRefTime r) = (sttgOp lo hi s).withRefTime r := by
  refine s.withRefTime_withOperands r _ ?_
  have htables : (s.withRefTime r).tables = s.tables := rfl
  simp only [htables, State.withRefTime_val]
  cases pctFind s.tables (pctKey (seqId (s.val lo) (s.val hi))) <;> rfl

theorem exitOp_withRefTime (k : Opnd) (s : State) (r : Nat) :
    exitOp k (s.withRefTime r) = (exitOp k s).withRefTime r := by
  refine s.withRefTime_withOperands r _ ?_
  rw [State.withRefTime_val, State.withRefTime_setBuiltin, State.withRefTime_endNormal]

theorem lockbufOp_withRefTime (s : State) (r : Nat) : lockbufOp (s.withRefTime r) = (lockbufOp s).withRefTime r := by
  refine State.withRefTime_ite r ?_ rfl
  have hbuiltin : (s.withRefTime r).builtin .nbf = s.builtin .nbf := rfl
  rw [State.lockCurrent_eq_setBuiltin, State.lockCurrent_eq_setBuiltin, hbuiltin, State.withRefTime_setBuiltin,
    State.withRefTime_setBuiltin]
  rfl

/-- An instruction that is neither TIM nor SRT neither reads nor writes the reference time. -/
theorem exec_withRefTime (i : Instr) (s : State) (r : Nat) (htim : isTim i = false) (hsrt : i ≠ .srt) :
    exec i (s.withRefTime r) = nextWithRefTime r (exec i s) := by
  have hplain : ∀ {ops : List Opnd} {body body' : State}, body' = body.withRefTime r →
      Host.Outcome.next ((s.withRefTime r).withOperands ops body') =
        nextWithRefTime r (.next (s.withOperands ops body)) := fun hb =>
    congrArg Host.Outcome.next (s.withRefTime_withOperands r _ hb)
  cases i with
  | addRRR | addRRI | addRIR | addRII | subRRR | subRRI | subRIR | subRII | incR | decR | sidRRI | sidRII | sidIRI | sidIII
  | vidIII | waitR | waitI | setRR | setRI | sampRR | sampRI | sampIR | sampII => exact hplain rfl
  | mulRRR | mulRRI | mulRIR | mulRII | delayR | delayI | ldaRR | ldaRI | frameR | frameI =>
    refine hplain ?_
    exact State.withRefTime_ite r rfl rfl
  | divRRR | divRRI | divRIR | divRII | ldrRR =>
    refine hplain ?_
    exact State.withRefTime_ite r rfl (State.withRefTime_ite r rfl rfl)
  | frmpfRRR | frmpfRRI | frmpfRIR | frmpfRII | frmpfIRR | frmpfIRI | frmpfIIR | frmpfIII =>
    refine hplain ?_
    exact State.withRefTime_ite r (State.withRefTime_ite r rfl rfl) rfl
  | beqRRR | beqRRI | beqARR | beqARI | bneRRR | bneRRI | bneARR | bneARI | bltRRR | bltRRI | bltARR | bltARI
  | bleRRR | bleRRI | bleARR | bleARI | bgtRRR | bgtRRI | bgtARR | bgtARI | bgeRRR | bgeRRI | bgeARR | bgeARI
  | bnzRR | bnzAR | bzRR | bzAR | ubrR | ubrA =>
    exact congrArg Host.Outcome.next (branchOp_withRefTime _ _ _ s r)
  | cllRR | cllRI | cllIR | cllII => exact congrArg Host.Outcome.next (cllOp_withRefTime _ _ s r)
  | ret => exact congrArg Host.Outcome.next (s.withRefTime_endNormal r)
  | exitR | exitI => exact congrArg Host.Outcome.next (exitOp_withRefTime _ s r)
  | setregsRR | setregsRI | setregsIR | setregsII =>
    exact congrArg Host.Outcome.next (setregsOp_withRefTime _ _ s r)
  | sttgRR | sttgRI | sttgIR | sttgII => exact congrArg Host.Outcome.next (sttgOp_withRefTime _ _ s r)
  | lockbuf => exact congrArg Host.Outcome.next (lockbufOp_withRefTime s r)
  | term | abort | noop | resetaec | startave | updimax => rfl
  | srt => exact absurd rfl hsrt
  | timR | timI => cases htim

/-! ### Every step -/

/-- An instruction that changes the reference time is SRT, which sets it to LOBT. -/
theorem Leaves.refTime_cases {i : Instr} {s t : State} (h : Leaves i s t) :
    t.refTime = s.refTime ∨ (i = .srt ∧ t.refTime = s.lobt) := by
  cases h with
  | wentOn _ _ _ _ href => exact href
  | _ => exact .inl rfl

theorem EventLeaves.refTime {s t : State} {a : Action} (h : EventLeaves s a t) : t.refTime = s.refTime := by
  cases h <;> rfl

/-- A step that changes the reference time executes SRT. -/
theorem step_changes_refTime {s t : State} (h : step s = .next t) (hne : t.refTime ≠ s.refTime) :
    s.mode = .running ∧ s.fetch = .ok .srt ∧ t.refTime = s.lobt := by
  obtain ⟨hrunning, ⟨i, hfetch, hi⟩ | ⟨e, rfl⟩⟩ | ⟨a, -, ha, -⟩ := step_leaves h
  · obtain ⟨rfl, hlobt⟩ := hi.refTime_cases.resolve_left hne
    exact ⟨hrunning, hfetch, hlobt⟩
  · exact absurd (by rw [State.fetchFailed_eq]; rfl) hne
  · exact absurd ha.refTime hne

/-- Settles O48: a step that changes the reference time is SRT's, and every instruction but TIM commutes with replacing it,
SRT by writing over it. -/
theorem refTimeWrittenBySrtReadByTim : Obligations.RefTimeWrittenBySrtReadByTim := by
  refine ⟨fun _ _ => step_changes_refTime, fun i s r htim => ?_⟩
  by_cases hsrt : i = .srt
  · subst hsrt
    rfl
  · simp only [if_neg hsrt]
    exact exec_withRefTime i s r htim hsrt

end Sys2Proof.Machine
